-- ==== Sys2Proof/Word.lean ====
section
/-! DEFINITION. The words of the SC-4: bytes, symbols, the index types of its tables, and site time as plain data. -/

namespace Sys2Proof

/-- A byte of either line. -/
abbrev Byte := BitVec 8

/-- A paging symbol, 0 to 3 (00_scope.md section 5.2). -/
abbrev Sym := BitVec 2

/-- A physical channel, 0..3. -/
abbrev Chan := Fin 4

/-- A stream, 0..7 of the link and 8 of the control port (R91). -/
abbrev Stream := Fin 9

/-- A maintenance word: the four bytes of R72 and 11_frame_and_record_layouts.md section 11.6, first byte most significant.
Two words are equal when all four bytes are. -/
abbrev DirWord := BitVec 32

/-- Site time: a second modulo 2^32 and an offset in ticks, 0..9,999,999 (00_scope.md section 5.1). -/
structure SiteTime where
  second : BitVec 32
  offset : Nat
  deriving DecidableEq, Repr

end Sys2Proof
end

