-- ==== Sys2Proof/Config.lean ====
section
/-! DEFINITION. What the SC-4 fixes (its capacities and patterns) and its one free value. -/

namespace Sys2Proof

/-- What a zone entry says: whether the zone is served, and its delay offset D in ticks (R22). -/
structure ZoneValue where
  valid : Bool
  d : Int
  deriving DecidableEq, Repr

/-- What the storage test makes of a disturbed entry (R25, R26): the entry agrees and reads so, it is corrected to a
value, or it cannot be corrected. D is given as 50,000 + D, so that it keeps the range of 02 section 2.1. -/
inductive FaultClass where
  | agrees (valid : Bool) (dPlus : Fin 100001)
  | correctable (valid : Bool) (dPlus : Fin 100001)
  | uncorrectable
  deriving DecidableEq, Repr, Inhabited

namespace Config

/-- FREE VALUE (log 11). R26: a fault of three or more stored bits is classified "as its check code makes it fall". The
check code is not given, so neither is the classification: it depends on what was written and which bits differ. -/
opaque multiFault (written : ZoneValue) (flipped : List Nat) : FaultClass

/-- Entries of one Launch Queue (R111). -/
def queueCapacity : Nat := 16

/-- Blocks of the Symbol Pool (R104). -/
def poolBlocks : Nat := 384

/-- Records held by the Record Ring (R154). -/
def ringCapacity : Nat := 64

/-- Frames held by the output queue (R165). -/
def outputCapacity : Nat := 4

/-- Ticks of a Zone Map clearing (R23). -/
def clearingTicks : Nat := 25600

/-- Ticks for which the strobe stays asserted (R132). -/
def strobeTicks : Nat := 500

/-- LK_CLK periods of a downlink superframe, and of the uplink interval (R53, R68). -/
def superframeBits : Nat := 656

/-- Ticks from a stored byte to the inter-byte timeout (R163). -/
def interByteTicks : Nat := 100000

/-- The greatest body length of a received control frame (R162). -/
def maxBody : Nat := 1024

/-- The downlink sync word (11 section 11.5). -/
def downlinkSync : BitVec 16 := 0x6B3C

/-- The uplink sync word (11 section 11.7). -/
def uplinkSync : BitVec 16 := 0xD25A

end Config
end Sys2Proof
end

