-- ==== Sys2Proof/Syntax.lean ====
section
/-! DEFINITION. The commands of the SC-4: one constructor of Instr per row of spec/opcode_table.json, with its operands. -/

namespace Sys2Proof

/-- The levels of the strap pins CP_RATE1 and CP_RATE0, true for high (R161). -/
structure Straps where
  rate1 : Bool
  rate0 : Bool
  deriving DecidableEq, Repr

/-- What brings a full reset about (R178): RESET_N asserting, or the reply of RESET FULL leaving the line. The second
ends at once and samples the straps, whose levels it names (log 4, log 6). -/
inductive FullResetCause where
  | resetN
  | request (straps : Straps)
  deriving DecidableEq, Repr

/-- The eighteen bytes of a segment slot (11 section 11.5). -/
abbrev Slot := Vector Byte 18

/-- The 656 bits of one downlink superframe position, field by field (R54). -/
structure Superframe where
  sync : BitVec 16
  number : Byte
  flags : Byte
  word : DirWord
  slots : Vector Slot 4
  check : BitVec 16
  deriving DecidableEq, Repr

/-- The eight header fields of a batch as a slot or an INJECT HEADER body carries them (R93, R171). -/
structure Header where
  tag : BitVec 16
  zone : Byte
  logical : Byte
  priority : Byte
  rate : Byte
  n : BitVec 16
  s : BitVec 32
  o : BitVec 32
  deriving DecidableEq, Repr

/-- The nine fields of a parameter record as SET PARAMETERS carries them (R167, 11 section 11.4). -/
structure ParamFields where
  siteAddress : BitVec 16
  groupMask : Byte
  mode : Byte
  window : BitVec 16
  slew : Byte
  holdover : BitVec 16
  guardG : BitVec 32
  horizon : Byte
  enables : Byte
  deriving DecidableEq, Repr

/-- The seven settings of a channel as SET CHANNEL carries them (11 section 11.4). -/
structure SettingsFields where
  enabled : Byte
  rate : Byte
  latency : BitVec 32
  lead : BitVec 32
  tail : BitVec 32
  holdGap : BitVec 32
  dry : Byte
  deriving DecidableEq, Repr

/-- A control request with its body's fields (R166 table). Repeated parts are the body bytes after the fixed fields. -/
inductive Request where
  | identify
  | getParameters
  | setParameters (p : ParamFields)
  | getChannel (channel : Byte)
  | setChannel (channel : Byte) (settings : SettingsFields)
  | readZones (first count : Byte)
  | writeZones (first count : Byte) (entries : List Byte)
  | readChannelMap
  | writeChannelMap (entries : Vector Byte 16)
  | setTime (second : BitVec 32)
  | readTime
  | mute (mask mode : Byte)
  | unmute (mask : Byte)
  | flush (mask : Byte)
  | cancel (batch : BitVec 16)
  | queryQueue (channel : Byte)
  | injectHeader (header : Header)
  | injectData (batch : BitVec 16) (first count : Byte) (segments : List Byte)
  | fetchRecords (start : BitVec 16) (maximum : Byte)
  | readCounts
  | clearCounts
  | readLinkStatus (clear : Byte)
  | setReplyWord (word : DirWord)
  | reset (option : Byte)
  | chain (stop count : Byte) (subs : List Byte)
  deriving DecidableEq, Repr

/-- The commands. A request command is the arrival of a good control frame of its kind with that frame tag. -/
inductive Instr where
  | ppsEdge
  | midSecondCheck
  | fullReset (cause : FullResetCause)
  | resetNRelease (straps : Straps)
  | clearingComplete
  /-- `searched`: in HUNT, the bits searched before the candidate's sync word (R55); of no account in the other states. -/
  | superframeEnd (searched : Nat) (frame : Superframe)
  | uplinkIntervalExpiry
  | controlByteArrival (byte : Byte) (framingError : Bool)
  | interByteTimeout
  | unknownKind (kind tag : Byte) (body : List Byte)
  | identify (tag : Byte)
  | getParameters (tag : Byte)
  | setParameters (tag : Byte) (p : ParamFields)
  | getChannel (tag channel : Byte)
  | setChannel (tag channel : Byte) (settings : SettingsFields)
  | readZones (tag first count : Byte)
  | writeZones (tag first count : Byte) (entries : List Byte)
  | readChannelMap (tag : Byte)
  | writeChannelMap (tag : Byte) (entries : Vector Byte 16)
  | setTime (tag : Byte) (second : BitVec 32)
  | readTime (tag : Byte)
  | muteNow (tag mask : Byte)
  | muteAfter (tag mask : Byte)
  | unmute (tag mask : Byte)
  | flush (tag mask : Byte)
  | cancel (tag : Byte) (batch : BitVec 16)
  | queryQueue (tag channel : Byte)
  | injectHeader (tag : Byte) (header : Header)
  | injectData (tag : Byte) (batch : BitVec 16) (first count : Byte) (segments : List Byte)
  | fetchRecords (tag : Byte) (start : BitVec 16) (maximum : Byte)
  | readCounts (tag : Byte)
  | clearCounts (tag : Byte)
  | readLinkStatus (tag clear : Byte)
  | setReplyWord (tag : Byte) (word : DirWord)
  | resetFull (tag : Byte)
  | resetControl (tag : Byte)
  | chain (tag stop count : Byte) (subs : List Byte)
  /-- `straps`: the levels of the strap pins at that moment, where they are not those last sampled; the full reset of
  RESET FULL samples them afresh (R178, log 4). -/
  | frameTransmitted (straps : Option Straps := none)
  | controlReset
  | keyInstant (n : Chan)
  | holdKeyInstant (n : Chan)
  | symbolInstant (n : Chan)
  | strobeWithdrawal (n : Chan)
  | tailStart (n : Chan)
  | endOfAirtime (n : Chan)
  | exciterFaultAssert (n : Chan)
  | exciterFaultClear (n : Chan)
  | pwrwarnAssert
  | pwrwarnRelease
  | refclkTick
  /-- `bits`: the stored bits of the entry that change (log 10). -/
  | storageDisturbance (zone : Byte) (bits : List Nat)
  deriving DecidableEq, Repr

end Sys2Proof
end

