-- ==== Sys2Proof/WellFormed.lean ====
section
/-! DEFINITION. Which commands can stand for something the outside does: the checks the operand types do not make. -/

namespace Sys2Proof

/-- The request kinds that 11 section 11.3 assigns. -/
def kindAssigned (kind : Byte) : Bool :=
  [0x01, 0x02, 0x03, 0x08, 0x09, 0x0A, 0x0B, 0x0C, 0x0D, 0x10, 0x11, 0x18, 0x19, 0x1A, 0x1B, 0x1C, 0x20, 0x21, 0x28,
    0x29, 0x2A, 0x30, 0x31, 0x38, 0x3F].any (fun k => kind == BitVec.ofNat 8 k)

/-- A list of bit positions names each once, in rising order. -/
def strictlyRising : List Nat → Bool
  | [] => true
  | [_] => true
  | a :: b :: rest => decide (a < b) && strictlyRising (b :: rest)

/-- WellFormed, by command: a body fits the 1,024 bytes of R162, an UNKNOWN_KIND frame's kind is unassigned (R166), and
a disturbance changes at least one stored bit and names each once (R25). -/
def Instr.wellFormed : Instr → Bool
  | .unknownKind kind _ body => !kindAssigned kind && decide (body.length ≤ 1024)
  | .writeZones _ _ _ entries => decide (entries.length ≤ 1022)
  | .injectData _ _ _ _ segments => decide (segments.length ≤ 1020)
  | .chain _ _ _ subs => decide (subs.length ≤ 1022)
  | .storageDisturbance _ bits => !bits.isEmpty && strictlyRising bits
  | .ppsEdge | .midSecondCheck | .fullReset _ | .resetNRelease _ | .clearingComplete | .superframeEnd _ _
  | .uplinkIntervalExpiry | .controlByteArrival _ _ | .interByteTimeout | .identify _ | .getParameters _
  | .setParameters _ _ | .getChannel _ _ | .setChannel _ _ _ | .readZones _ _ _ | .readChannelMap _
  | .writeChannelMap _ _ | .setTime _ _ | .readTime _ | .muteNow _ _ | .muteAfter _ _ | .unmute _ _ | .flush _ _
  | .cancel _ _ | .queryQueue _ _ | .injectHeader _ _ | .fetchRecords _ _ _ | .readCounts _ | .clearCounts _
  | .readLinkStatus _ _ | .setReplyWord _ _ | .resetFull _ | .resetControl _ | .frameTransmitted _ | .controlReset
  | .keyInstant _ | .holdKeyInstant _ | .symbolInstant _ | .strobeWithdrawal _ | .tailStart _ | .endOfAirtime _
  | .exciterFaultAssert _ | .exciterFaultClear _ | .pwrwarnAssert | .pwrwarnRelease | .refclkTick => true

end Sys2Proof
end

