-- ==== Sys2Proof/Decode.lean ====
section
/-! DEFINITION. The command a table word spells. spec/opcode_table.json gives no row any bits, so no word spells one (log 24). -/

namespace Sys2Proof

/-- The command whose bits are `w` by the table's numbering: none, since no row of the table has bits. -/
def decodeTableWord (_nbits _w : Nat) : Option Instr := none

end Sys2Proof
end

