-- ==== Sys2Proof/Machine/Types.lean ====
section
/-! DEFINITION. The state of each block of the SC-4 as plain data. -/

namespace Sys2Proof.Machine

/-- R7 to R15. -/
inductive TimebaseState where
  | free | acquire | locked | holdover
  deriving DecidableEq, Repr

/-- The Timebase (chapter 1). -/
structure Timebase where
  time : SiteTime
  state : TimebaseState
  valid : Bool
  pendingSet : Option (BitVec 32)
  good : Nat
  outlier : Nat
  agree : Nat
  stepPending : Bool
  elapsed : Nat
  lastError : Int
  edgeSeen : Bool
  nextCheck : SiteTime
  deriving DecidableEq, Repr

/-- The seven notice kinds, in the order C0h to C6h (R174). -/
inductive NoticeKind where
  | timebase | link | directive | channel | exception | map | power
  deriving DecidableEq, Repr

/-- A subset of the notice kinds. -/
structure NoticeSet where
  timebase : Bool
  link : Bool
  directive : Bool
  channel : Bool
  exception : Bool
  map : Bool
  power : Bool
  deriving DecidableEq, Repr

/-- R77 to R79. -/
inductive DirectiveMode where
  | auto | transparentChange | transparentVerified
  deriving DecidableEq, Repr

/-- The parameter record (R167). -/
structure Params where
  siteAddress : Nat
  groupMask : BitVec 7
  mode : DirectiveMode
  window : Nat
  slew : Nat
  holdover : Nat
  guardG : Nat
  horizon : Nat
  enables : NoticeSet
  deriving DecidableEq, Repr

/-- A stored zone entry (R25): the value it was last written with, and which stored bits now differ from those written,
in rising order. No bit differs exactly when the entry matches its check code as written (log 10). -/
structure ZoneEntry where
  written : ZoneValue
  flipped : List Nat
  deriving DecidableEq, Repr

/-- The Zone Map (section 2.1). `clearing` counts the ticks of a clearing in progress. -/
structure ZoneMap where
  entries : Vector ZoneEntry 256
  ready : Bool
  clearing : Option Nat
  tally : Nat
  lastIndex : Option Byte
  deriving DecidableEq, Repr

/-- A symbol rate (section 2.3). -/
inductive Rate where
  | r1600 | r3200
  deriving DecidableEq, Repr

/-- A channel's settings record (section 2.3). -/
structure Settings where
  enabled : Bool
  rate : Rate
  latency : Nat
  lead : Nat
  tail : Nat
  holdGap : Nat
  dry : Bool
  deriving DecidableEq, Repr

/-- R113. -/
inductive EntryState where
  | assembling | ready | active
  deriving DecidableEq, Repr

/-- A queue entry (R112). The chain reference is the chain itself (R104). `passed` is the model's own: an edge at which
launching was not allowed has passed its key instant, whose event is still to come (R4, R8, log 29). -/
structure Entry where
  tag : BitVec 16
  zone : Byte
  priority : Fin 4
  source : Stream
  state : EntryState
  t : SiteTime
  tk : SiteTime
  tend : SiteTime
  n : Nat
  rate : Rate
  received : Nat
  chain : List Nat
  passed : Bool
  deriving DecidableEq, Repr

/-- R131. -/
inductive SeqState where
  | disabled | idle | keying | sending | tail | hold
  deriving DecidableEq, Repr

/-- A Channel Sequencer (chapter 8). `fault` is the level of EXn_FLT. `strobe` is absent while EXn_STB is withdrawn and
counts the ticks since its assertion otherwise (R132). The next instant and EXn_KEY are computed (log 17). -/
structure Sequencer where
  state : SeqState
  portMute : Bool
  muteAfter : Bool
  fault : Bool
  dry : Bool
  sent : Nat
  lines : Sym
  strobe : Option Nat
  deriving DecidableEq, Repr

/-- A physical channel: its settings record, its Launch Queue (head first) and its sequencer. -/
structure Channel where
  settings : Settings
  queue : List Entry
  seq : Sequencer
  deriving DecidableEq, Repr

/-- R55 to R59. -/
inductive SyncState where
  | hunt | confirm | sync | flywheel
  deriving DecidableEq, Repr

/-- An uplink superframe on LK_TXD: its bytes and the bit position at which it began (R68). -/
structure Uplink where
  bytes : List Byte
  start : Nat
  deriving DecidableEq, Repr

/-- The Link Framer (chapter 4). Positions count LK_CLK periods from the end of the reset; `reached` is the position of
the last link event, `expected` the bit where the next superframe is expected, in HUNT where the search goes on (log 12). -/
structure Framer where
  sync : SyncState
  reached : Nat
  expected : Nat
  confirm : Nat
  miss : Nat
  lastGood : Byte
  nearEnd : Nat
  farEnd : Nat
  farError : Bool
  interval : Nat
  uplink : Option Uplink
  deriving DecidableEq, Repr

/-- The Directive Unit (chapter 5). -/
structure Directives where
  history : List DirWord
  verified : DirWord
  lastGood : Option DirWord
  muteMask : BitVec 4
  hold : Bool
  dryMask : BitVec 4
  supplied : DirWord
  deriving DecidableEq, Repr

/-- What an OPEN assembly context holds (R91). -/
structure Context where
  tag : BitVec 16
  chan : Chan
  expected : Nat
  next : Nat
  received : Nat
  deriving DecidableEq, Repr

/-- The Symbol Pool (section 6.6): the free list, head first, and the written symbol positions (address 256 x block +
position), in the canonical form of `Pool.wf`. -/
structure Pool where
  free : List Nat
  cells : List (Nat × Sym)
  deriving DecidableEq, Repr

/-- The 29 outcomes (11 section 11.8). -/
inductive LaunchOutcome where
  | launched | launchedDry | abortedMute | abortedFault | abortedTimebase | malformed | zoneInvalid | mapNotReady
  | mapFault | channelDisabled | rateMismatch | held | duplicate | late | tooEarly | poolEmpty | queueFull | overlap
  | preempted | truncated | gap | lateData | muted | fault | timebase | power | flushed | cancelled | resetDropped
  deriving DecidableEq, Repr

/-- The fields of a launch record that the writing block supplies (R153). -/
structure RecordBody where
  tag : BitVec 16
  chan : Option Chan
  zone : Byte
  source : Stream
  outcome : LaunchOutcome
  t : Option SiteTime
  received : Option Nat
  sent : Nat
  deriving DecidableEq, Repr

/-- A launch record (R153). -/
structure LaunchRecord where
  seqNo : BitVec 16
  body : RecordBody
  time : SiteTime
  deriving DecidableEq, Repr

/-- The exception mark (R157). -/
structure Mark where
  first : BitVec 16
  tally : Nat
  deriving DecidableEq, Repr

/-- The Record Ring (section 9.3), oldest record first. -/
structure Ring where
  records : List LaunchRecord
  nextSeq : BitVec 16
  mark : Option Mark
  deriving DecidableEq, Repr

/-- The 35 counters (R158). -/
structure Counts where
  admitted : Nat
  outcomes : Vector Nat 29
  notCarried : Nat
  orphans : Nat
  corrected : Nat
  portErrors : Nat
  overruns : Nat
  deriving DecidableEq, Repr

/-- A frame of the output queue; its start, length and check are computed (11 section 11.3). -/
structure Frame where
  kind : Byte
  tag : Byte
  body : List Byte
  deriving DecidableEq, Repr

/-- R176. -/
inductive ResetOption where
  | full | control
  deriving DecidableEq, Repr

/-- R161. -/
inductive LineRate where
  | b38400 | b115200 | b460800 | b921600
  deriving DecidableEq, Repr

/-- The Control Port (chapter 10). `frame` is absent while the assembler is OUTSIDE; otherwise it holds the bytes of the
frame received so far, the start byte first. -/
structure Port where
  lineRate : LineRate
  frame : Option (List Byte)
  timeout : Option SiteTime
  out : List Frame
  notices : NoticeSet
  resetPending : Option ResetOption
  deriving DecidableEq, Repr

/-- The levels of the plain inputs: RESET_N asserted, PWRWARN asserted, and the straps as last sampled (R161). -/
structure Pins where
  resetN : Bool
  pwrwarn : Bool
  straps : Straps
  deriving DecidableEq, Repr

end Sys2Proof.Machine
end

