-- ==== Sys2Proof/Machine/ResetValues.lean ====
section
/-! DEFINITION. The full-reset values of each block, as the last section of its chapter gives them. -/

namespace Sys2Proof.Machine

/-- R21. -/
def Timebase.resetValue : Timebase where
  time := ⟨0, 0⟩
  state := .free
  valid := false
  pendingSet := none
  good := 0
  outlier := 0
  agree := 0
  stepPending := false
  elapsed := 0
  lastError := 0
  edgeSeen := false
  nextCheck := ⟨0, 5000000⟩

def NoticeSet.empty : NoticeSet := ⟨false, false, false, false, false, false, false⟩

def NoticeSet.full : NoticeSet := ⟨true, true, true, true, true, true, true⟩

/-- R167. -/
def Params.resetValue : Params where
  siteAddress := 0
  groupMask := 0
  mode := .auto
  window := 20
  slew := 4
  holdover := 300
  guardG := 50000
  horizon := 30
  enables := .full

/-- An invalid entry with D = 0 and a matching check code (R23, R26). -/
def ZoneEntry.cleared : ZoneEntry := ⟨⟨false, 0⟩, []⟩

/-- R31 at the end of the reset: the clearing has begun. The contents before it completes: DESIGN CHOICE (log 9). -/
def ZoneMap.resetValue : ZoneMap where
  entries := Vector.replicate 256 ZoneEntry.cleared
  ready := false
  clearing := some 0
  tally := 0
  lastIndex := none

/-- R33. -/
def channelMapReset : Vector (Option Chan) 16 := Vector.replicate 16 none

/-- The defaults of the table of section 2.3 (R37). -/
def Settings.resetValue : Settings where
  enabled := false
  rate := .r3200
  latency := 0
  lead := 50000
  tail := 3125
  holdGap := 0
  dry := false

/-- R152, with EXn_FLT at the level given. -/
def Sequencer.resetValue (fault : Bool) : Sequencer where
  state := .disabled
  portMute := false
  muteAfter := false
  fault := fault
  dry := false
  sent := 0
  lines := 0
  strobe := none

/-- R37, R130, R152. -/
def Channel.resetValue (fault : Bool) : Channel where
  settings := .resetValue
  queue := []
  seq := .resetValue fault

/-- R71. -/
def Framer.resetValue : Framer where
  sync := .hunt
  reached := 0
  expected := 0
  confirm := 0
  miss := 0
  lastGood := 0
  nearEnd := 0
  farEnd := 0
  farError := false
  interval := 0
  uplink := none

/-- R90. IDLE with address 0 and parameter 0 is the word of four zero bytes. -/
def Directives.resetValue : Directives where
  history := []
  verified := 0
  lastGood := none
  muteMask := 0
  hold := false
  dryMask := 0
  supplied := 0

/-- R91, R109. -/
def contextsReset : Vector (Option Context) 9 := Vector.replicate 9 none

/-- All blocks in ascending order, 0 at the head (R104, R109, R110). -/
def freeListReset : List Nat := List.range Config.poolBlocks

/-- R160. -/
def Ring.resetValue : Ring := ⟨[], 0, none⟩

/-- R160. -/
def Counts.resetValue : Counts where
  admitted := 0
  outcomes := Vector.replicate 29 0
  notCarried := 0
  orphans := 0
  corrected := 0
  portErrors := 0
  overruns := 0

/-- The rate the straps select (R161). -/
def lineRateOf : Straps → LineRate
  | ⟨false, false⟩ => .b38400
  | ⟨false, true⟩ => .b115200
  | ⟨true, false⟩ => .b460800
  | ⟨true, true⟩ => .b921600

/-- R178. -/
def Port.resetValue (rate : LineRate) : Port where
  lineRate := rate
  frame := none
  timeout := none
  out := []
  notices := .empty
  resetPending := none

/-- DESIGN CHOICE (log 6): both strap pins low at power-on. -/
def strapsAtPowerOn : Straps := ⟨false, false⟩

/-- DESIGN CHOICE (log 7): no exciter fault and no power warning at power-on; RESET_N has been released. -/
def pinsAtPowerOn : Pins := ⟨false, false, strapsAtPowerOn⟩

/-- DESIGN CHOICE (log 8): what a symbol position that nothing has written reads as. -/
def Pool.unwritten : Sym := 0

end Sys2Proof.Machine
end

