-- ==== Sys2Proof/Machine/State.lean ====
section
/-! DEFINITION. The state of the SC-4, right after reset and in general, and the reasons a step could stop. -/

namespace Sys2Proof.Machine

/-- The whole part, block by block, the levels of its plain inputs, and the queue of commands that wait. -/
@[ext]
structure State where
  tb : Timebase
  params : Params
  zones : ZoneMap
  channelMap : Vector (Option Chan) 16
  channels : Vector Channel 4
  framer : Framer
  dir : Directives
  contexts : Vector (Option Context) 9
  pool : Pool
  ring : Ring
  counts : Counts
  port : Port
  pins : Pins
  pending : List Instr
  deriving DecidableEq, Repr

/-- Reasons to stop with a fault. The spec names none, so there is none. -/
inductive Fault where
  deriving DecidableEq, Repr

/-- Reasons to refuse a command. -/
inductive Refusal where
  /-- Raised by exec's arms for a row of the table that has no meaning yet; no arm does. Safe: the model stops. -/
  | notModelled (mnemonic : String)
  deriving DecidableEq, Repr

/-- The part right after a full reset has ended (R178): the reset values of every block, nothing in the pool written,
no command waiting. -/
def State.reset : State where
  tb := .resetValue
  params := .resetValue
  zones := .resetValue
  channelMap := channelMapReset
  channels := Vector.replicate 4 (.resetValue false)
  framer := .resetValue
  dir := .resetValue
  contexts := contextsReset
  pool := ⟨freeListReset, []⟩
  ring := .resetValue
  counts := .resetValue
  port := .resetValue (lineRateOf strapsAtPowerOn)
  pins := pinsAtPowerOn
  pending := []

end Sys2Proof.Machine
end

