-- ==== Sys2Proof/Machine/Ops.lean ====
section
/-! DEFINITION. The shared operations: site-time arithmetic, the Symbol Pool, notices, counts, launch records, channels and
contexts, and the removal of a queue entry. -/

namespace Sys2Proof

namespace SiteTime

/-- The site time of second `s` and a signed offset, by one borrow or one carry (R2, R40, R41). -/
def normalise (s : BitVec 32) (q : Int) : SiteTime :=
  if q < 0 then ⟨s - 1, (q + 10000000).toNat⟩
  else if 10000000 ≤ q then ⟨s + 1, (q - 10000000).toNat⟩
  else ⟨s, q.toNat⟩

/-- One REFCLK tick (R1). -/
def tick (x : SiteTime) : SiteTime :=
  if x.offset < 9999999 then ⟨x.second, x.offset + 1⟩ else ⟨x.second + 1, 0⟩

/-- A correction by `c` ticks (R2). -/
def correct (x : SiteTime) (c : Int) : SiteTime := normalise x.second (x.offset + c)

/-- A step at edge error `e` (R2). -/
def stepAt (x : SiteTime) (e : Int) : SiteTime :=
  if 0 ≤ e then ⟨x.second, 0⟩ else ⟨x.second + 1, 0⟩

/-- The signed difference X - Y in ticks (R45). -/
def diff (x y : SiteTime) : Int :=
  (x.second - y.second).toInt * 10000000 + ((x.offset : Int) - (y.offset : Int))

/-- X is before Y (R45). -/
def before (x y : SiteTime) : Bool := decide (diff x y < 0)

/-- A scheduled instant is due (R3). -/
def due (x now : SiteTime) : Bool := decide (diff x now ≤ 0)

/-- `n` ticks later, by the division of R43. -/
def later (x : SiteTime) (n : Nat) : SiteTime :=
  ⟨x.second + BitVec.ofNat 32 ((x.offset + n) / 10000000), (x.offset + n) % 10000000⟩

/-- The first instant at offset 5,000,000 at or after `x` (R5). -/
def nextMidSecond (x : SiteTime) : SiteTime :=
  if x.offset ≤ 5000000 then ⟨x.second, 5000000⟩ else ⟨x.second + 1, 5000000⟩

end SiteTime

namespace Machine

/-- A count that stays at its cap (00_scope.md section 5.2). -/
def satInc (cap n : Nat) : Nat := if n < cap then n + 1 else n

/-! ### Symbol Pool -/

/-- The symbol at an address: 256 x block + position (R96). -/
def cellsRead (a : Nat) : List (Nat × Sym) → Sym
  | [] => Pool.unwritten
  | (b, w) :: rest => if a = b then w else cellsRead a rest

/-- Writes a symbol, keeping the list in its canonical form. -/
def cellsWrite (a : Nat) (v : Sym) : List (Nat × Sym) → List (Nat × Sym)
  | [] => if v = Pool.unwritten then [] else [(a, v)]
  | (b, w) :: rest =>
    if a < b then (if v = Pool.unwritten then (b, w) :: rest else (a, v) :: (b, w) :: rest)
    else if a = b then (if v = Pool.unwritten then rest else (a, v) :: rest)
    else (b, w) :: cellsWrite a v rest

/-- Writes symbols at consecutive addresses. -/
def cellsWriteAll (a : Nat) : List Sym → List (Nat × Sym) → List (Nat × Sym)
  | [], cells => cells
  | v :: vs, cells => cellsWriteAll (a + 1) vs (cellsWrite a v cells)

/-- The canonical form: addresses strictly rising from `lo` on, and nothing listed that reads so unlisted. -/
def cellsWfFrom (lo : Nat) : List (Nat × Sym) → Bool
  | [] => true
  | (b, w) :: rest => decide (lo ≤ b) && decide (w ≠ Pool.unwritten) && cellsWfFrom (b + 1) rest

/-- The pool's written symbols stand in canonical form. -/
def Pool.wf (p : Pool) : Bool := cellsWfFrom 0 p.cells

/-- Where symbol `k` of a batch lies: chain block floor(k / 256), position k mod 256 (R96, R107). -/
def symbolAddress (chain : List Nat) (k : Nat) : Nat := 256 * chain.getD (k / 256) 0 + k % 256

/-- Fewer than 32 blocks are free (R108). -/
def Pool.low (p : Pool) : Bool := decide (p.free.length < 32)

/-- The blocks a batch of `n` symbols needs, ceiling(n / 256) (R105). -/
def blocksFor (n : Nat) : Nat := (n + 255) / 256

/-- The segments of a batch of `n` symbols, ceiling(n / 64) (R95). -/
def segmentsFor (n : Nat) : Nat := (n + 63) / 64

/-! ### Channels and contexts -/

def State.chan (s : State) (n : Chan) : Channel := s.channels[n]

def State.setChan (s : State) (n : Chan) (c : Channel) : State := { s with channels := s.channels.set n c }

/-- Changes one channel's sequencer. -/
def State.setSeq (s : State) (n : Chan) (q : Sequencer) : State := s.setChan n { s.chan n with seq := q }

/-- Replaces one channel's queue. -/
def State.setQueue (s : State) (n : Chan) (q : List Entry) : State := s.setChan n { s.chan n with queue := q }

def State.context (s : State) (k : Stream) : Option Context := s.contexts[k]

def State.setContext (s : State) (k : Stream) (c : Option Context) : State :=
  { s with contexts := s.contexts.set k c }

/-- The physical channels in ascending order. -/
def allChans : List Chan := [0, 1, 2, 3]

/-- The channels of a mask, in ascending order. -/
def maskChans (m : BitVec 4) : List Chan := allChans.filter (fun n => m.getLsbD n.val)

/-- Applies an operation to each channel in turn. -/
def forChans (f : Chan → State → State) (ns : List Chan) (s : State) : State := ns.foldl (fun s n => f n s) s

/-! ### Notices -/

def NoticeSet.has (x : NoticeSet) : NoticeKind → Bool
  | .timebase => x.timebase
  | .link => x.link
  | .directive => x.directive
  | .channel => x.channel
  | .exception => x.exception
  | .map => x.map
  | .power => x.power

def NoticeSet.put (x : NoticeSet) (b : Bool) : NoticeKind → NoticeSet
  | .timebase => { x with timebase := b }
  | .link => { x with link := b }
  | .directive => { x with directive := b }
  | .channel => { x with channel := b }
  | .exception => { x with exception := b }
  | .map => { x with map := b }
  | .power => { x with power := b }

/-- The kinds of `x` that `y` has as well. -/
def NoticeSet.inter (x y : NoticeSet) : NoticeSet :=
  ⟨x.timebase && y.timebase, x.link && y.link, x.directive && y.directive, x.channel && y.channel,
    x.exception && y.exception, x.map && y.map, x.power && y.power⟩

/-- The notice kinds in the order in which they are sent (R174). -/
def allNotices : List NoticeKind := [.timebase, .link, .directive, .channel, .exception, .map, .power]

/-- The first kind of the set in the order of R174. -/
def NoticeSet.first? (x : NoticeSet) : Option NoticeKind := allNotices.find? (fun k => x.has k)

/-- Makes a notice pending, if it is enabled (R174). -/
def State.pend (s : State) (k : NoticeKind) : State :=
  if s.params.enables.has k then { s with port := { s.port with notices := s.port.notices.put true k } } else s

/-- Makes a notice pending when a condition holds. -/
def State.pendIf (s : State) (b : Bool) (k : NoticeKind) : State := if b then s.pend k else s

/-! ### Counts and records -/

/-- The codes of 11 section 11.8, which also order the outcome counts. -/
def LaunchOutcome.code : LaunchOutcome → Fin 29
  | .launched => 0x00
  | .launchedDry => 0x01
  | .abortedMute => 0x02
  | .abortedFault => 0x03
  | .abortedTimebase => 0x04
  | .malformed => 0x05
  | .zoneInvalid => 0x06
  | .mapNotReady => 0x07
  | .mapFault => 0x08
  | .channelDisabled => 0x09
  | .rateMismatch => 0x0A
  | .held => 0x0B
  | .duplicate => 0x0C
  | .late => 0x0D
  | .tooEarly => 0x0E
  | .poolEmpty => 0x0F
  | .queueFull => 0x10
  | .overlap => 0x11
  | .preempted => 0x12
  | .truncated => 0x13
  | .gap => 0x14
  | .lateData => 0x15
  | .muted => 0x16
  | .fault => 0x17
  | .timebase => 0x18
  | .power => 0x19
  | .flushed => 0x1A
  | .cancelled => 0x1B
  | .resetDropped => 0x1C

/-- The counters saturate at 65,535 (R158). -/
def countInc (n : Nat) : Nat := satInc 65535 n

def Counts.countOutcome (c : Counts) (o : LaunchOutcome) : Counts :=
  { c with outcomes := c.outcomes.set o.code (countInc c.outcomes[o.code]) }

/-- Anything but a plain launch is an exception (R157). -/
def LaunchOutcome.isException : LaunchOutcome → Bool
  | .launched | .launchedDry => false
  | _ => true

/-- The exception mark after one more exception record (R157). -/
def Mark.update (m : Option Mark) (seqNo : BitVec 16) : Mark :=
  match m with
  | none => ⟨seqNo, 1⟩
  | some m => { m with tally := satInc 255 m.tally }

/-- Appends a record, numbering it and losing the oldest of 64 (R154). -/
def Ring.append (r : Ring) (b : RecordBody) (time : SiteTime) : Ring :=
  { r with
    records := (if r.records.length < Config.ringCapacity then r.records else r.records.drop 1) ++ [⟨r.nextSeq, b, time⟩]
    nextSeq := r.nextSeq + 1 }

/-- Writes one launch record with its count (R154, R158), its exception mark and its notice (R157). -/
def State.writeRecord (s : State) (b : RecordBody) : State :=
  let isExc := b.outcome.isException && s.params.enables.exception
  let ring := s.ring.append b s.tb.time
  let s := { s with
    ring := if isExc then { ring with mark := some (Mark.update s.ring.mark s.ring.nextSeq) } else ring
    counts := s.counts.countOutcome b.outcome }
  s.pendIf isExc .exception

/-! ### Removals (R114) -/

/-- What the record of a removed entry carries (R114, R153). -/
def Entry.record (e : Entry) (n : Chan) (o : LaunchOutcome) (sent : Nat) : RecordBody where
  tag := e.tag
  chan := some n
  zone := e.zone
  source := e.source
  outcome := o
  t := some e.t
  received := some e.received
  sent := sent

/-- An ASSEMBLING entry's removal makes its context FREE; the context is that of its source stream (R91, R103). -/
def State.closeContext (s : State) (e : Entry) : State :=
  if e.state = .assembling then s.setContext e.source none else s

/-- Appends blocks to the tail of the free list (R106). -/
def State.freeBlocks (s : State) (blocks : List Nat) : State :=
  { s with pool := { s.pool with free := s.pool.free ++ blocks } }

/-- Removes entry `e` from queue `n`: the record, the chain to the free list's tail, the context (R114). -/
def retire (n : Chan) (e : Entry) (o : LaunchOutcome) (sent : Nat) (s : State) : State :=
  (((s.setQueue n ((s.chan n).queue.erase e)).writeRecord (e.record n o sent)).freeBlocks e.chain).closeContext e

/-- Removes entries from queue `n` one after another, none of them ever keyed (R106, R125, R128). -/
def retireAll (n : Chan) (o : LaunchOutcome) (es : List Entry) (s : State) : State :=
  es.foldl (fun s e => retire n e o 0 s) s

end Machine
end Sys2Proof
end

