-- ==== Sys2Proof/Machine/Flags.lean ====
section
/-! DEFINITION. Conditions computed from the state: muted, dry, launch allowed, the key line, the next instant, and the codes
in which the part reports its states. -/

namespace Sys2Proof.Machine

/-- Launch allowed (R19). -/
def Timebase.launchAllowed (t : Timebase) : Bool := (t.state = .locked ∨ t.state = .holdover) ∧ t.valid

/-- KEYING, SENDING, TAIL or HOLD (R131). -/
def SeqState.keyed : SeqState → Bool
  | .keying | .sending | .tail | .hold => true
  | .disabled | .idle => false

/-- Every Channel Sequencer is IDLE or DISABLED (R14). -/
def State.allIdle (s : State) : Bool := allChans.all (fun n => !(s.chan n).seq.state.keyed)

/-- The muted condition, composed from its two sources (R84, R143). -/
def State.muted (s : State) (n : Chan) : Bool := (s.chan n).seq.portMute || s.dir.muteMask.getLsbD n.val

/-- The dry condition at keying, composed from its two sources (R84, R133). -/
def State.dryAtKeying (s : State) (n : Chan) : Bool := (s.chan n).settings.dry || s.dir.dryMask.getLsbD n.val

/-- A channel's muted condition differs between two states (R143). -/
def mutedDiffers (a b : State) : Bool := allChans.any (fun n => a.muted n != b.muted n)

/-- EXn_KEY (R132). -/
def Sequencer.key (q : Sequencer) : Bool := q.state.keyed && !q.dry

/-- The symbol period (section 3.1). -/
def Rate.period : Rate → Nat
  | .r1600 => 6250
  | .r3200 => 3125

/-- The instant of symbol `k` (R42). -/
def Entry.symbolAt (e : Entry) (k : Nat) : SiteTime := e.t.later (k * e.rate.period)

/-- The tail start, T + N x P (R43). -/
def Entry.tailStart (e : Entry) : SiteTime := e.t.later (e.n * e.rate.period)

/-- The instant the sequencer waits for next, or none (R133 to R142, log 17). -/
def Channel.nextInstant (c : Channel) : Option SiteTime :=
  match c.seq.state, c.queue with
  | .idle, e :: _ => some e.tk
  | .keying, e :: _ => some e.t
  | .sending, e :: _ => some (if c.seq.sent < e.n then e.symbolAt c.seq.sent else e.tailStart)
  | .tail, e :: _ => some e.tend
  | .hold, _ :: e :: _ => some e.tk
  | _, _ => none

/-- The sequencer's next instant is due (R3). -/
def State.instantDue (s : State) (n : Chan) : Bool :=
  match (s.chan n).nextInstant with
  | some x => x.due s.tb.time
  | none => false

/-- The first two conditions of R139: an entry behind the active batch, keying within the hold gap of its Tend. -/
def Channel.holdsOn (c : Channel) : Bool :=
  match c.queue with
  | a :: b :: _ => decide (b.tk.diff a.tend ≤ c.settings.holdGap)
  | _ => false

/-! ### Codes (chapter 11) -/

def TimebaseState.code : TimebaseState → Nat
  | .free => 0
  | .acquire => 1
  | .locked => 2
  | .holdover => 3

def SeqState.code : SeqState → Nat
  | .disabled => 0
  | .idle => 1
  | .keying => 2
  | .sending => 3
  | .tail => 4
  | .hold => 5

def SyncState.code : SyncState → Nat
  | .hunt => 0
  | .confirm => 1
  | .sync => 2
  | .flywheel => 3

def EntryState.code : EntryState → Nat
  | .assembling => 0
  | .ready => 1
  | .active => 2

def Rate.code : Rate → Nat
  | .r1600 => 0
  | .r3200 => 1

def DirectiveMode.code : DirectiveMode → Nat
  | .auto => 0
  | .transparentChange => 1
  | .transparentVerified => 2

/-- Notice kinds C0h to C6h (R181). -/
def NoticeKind.code : NoticeKind → Byte
  | .timebase => 0xC0
  | .link => 0xC1
  | .directive => 0xC2
  | .channel => 0xC3
  | .exception => 0xC4
  | .map => 0xC5
  | .power => 0xC6

/-- The condition of a channel in the uplink's channel summary: the first of R67's list (0 IDLE, 1 ACTIVE, 2 MUTED,
3 FAULT). -/
def State.channelCondition (s : State) (n : Chan) : Nat :=
  let q := (s.chan n).seq
  if q.state = .disabled then 2
  else if q.state.keyed then 1
  else if q.fault then 3
  else if s.muted n then 2
  else 0

/-- The channel summary byte (11 section 11.7). -/
def State.channelSummary (s : State) : Byte :=
  BitVec.ofNat 8 (s.channelCondition 0 + 4 * s.channelCondition 1 + 16 * s.channelCondition 2 + 64 * s.channelCondition 3)

/-- The uplink's status flags (11 section 11.7). -/
def State.statusFlags (s : State) : Byte :=
  BitVec.ofNat 8 (s.framer.farError.toNat + 2 * s.tb.valid.toNat + 4 * s.tb.state.code + 16 * s.pool.low.toNat
    + 32 * s.dir.hold.toNat)

end Sys2Proof.Machine
end

