-- ==== Sys2Proof/Machine/Operands.lean ====
section
/-! DEFINITION. Bytes and fields: big-endian packing, the check sequence, maintenance words, slots, and the request bodies of
control frames read into their fields. -/

namespace Sys2Proof.Machine

/-! ### Packing (R179) -/

def byte1 (n : Nat) : List Byte := [BitVec.ofNat 8 n]

def byte2 (w : BitVec 16) : List Byte := [w.extractLsb' 8 8, w.extractLsb' 0 8]

def byte4 (w : BitVec 32) : List Byte :=
  [w.extractLsb' 24 8, w.extractLsb' 16 8, w.extractLsb' 8 8, w.extractLsb' 0 8]

def nat2 (n : Nat) : List Byte := byte2 (BitVec.ofNat 16 n)

def nat4 (n : Nat) : List Byte := byte4 (BitVec.ofNat 32 n)

/-- Two's complement in four bytes: D and the last edge error. -/
def int4 (i : Int) : List Byte := byte4 (BitVec.ofInt 32 i)

def flag1 (b : Bool) : List Byte := byte1 b.toNat

/-- A site time: the second, then the offset. -/
def time8 (x : SiteTime) : List Byte := byte4 x.second ++ nat4 x.offset

/-- A site time that may be absent; absent, its field is sent as 0. -/
def timeOr0 (x : Option SiteTime) : List Byte := time8 (x.getD ⟨0, 0⟩)

def word2 (a b : Byte) : BitVec 16 := a ++ b

def word4 (a b c d : Byte) : BitVec 32 := a ++ b ++ c ++ d

/-- The four symbols of a byte, the first in bits 7..6. -/
def symbolsOf (b : Byte) : List Sym := [b.extractLsb' 6 2, b.extractLsb' 4 2, b.extractLsb' 2 2, b.extractLsb' 0 2]

/-! ### The check sequence (R180) -/

/-- One data bit. -/
def crcBit (r : BitVec 16) (d : Bool) : BitVec 16 :=
  if r.msb != d then (r <<< 1) ^^^ 0x1021 else r <<< 1

/-- One covered byte, bit 7 first. -/
def crcByte (r : BitVec 16) (b : Byte) : BitVec 16 :=
  [7, 6, 5, 4, 3, 2, 1, 0].foldl (fun r i => crcBit r (b.getLsbD i)) r

/-- The check value over the covered bytes. -/
def crc16 (bytes : List Byte) : BitVec 16 := bytes.foldl crcByte 0xFFFF

/-! ### Control frames (11 section 11.3) -/

/-- Body length, kind, tag and body: the covered bytes of a control frame. -/
def Frame.covered (f : Frame) : List Byte := nat2 f.body.length ++ [f.kind, f.tag] ++ f.body

/-- The bytes of a control frame as sent on CP_TXD. -/
def Frame.bytes (f : Frame) : List Byte := 0xA5 :: f.covered ++ byte2 (crc16 f.covered)

/-- The ten bit times of a byte on CP_TXD: start bit, eight data bits from the least significant on, stop bit (R161). True
is high. -/
def byteBits (b : Byte) : List Bool :=
  [false, b.getLsbD 0, b.getLsbD 1, b.getLsbD 2, b.getLsbD 3, b.getLsbD 4, b.getLsbD 5, b.getLsbD 6, b.getLsbD 7, true]

/-- The levels of CP_TXD while a frame is sent, byte after byte with no gap (R161, R165). -/
def Frame.lineBits (f : Frame) : List Bool := f.bytes.flatMap byteBits

/-! ### Maintenance words (11 section 11.6) -/

def wordAddress (w : DirWord) : Nat := (w.extractLsb' 16 10).toNat

def wordSpare (w : DirWord) : BitVec 6 := w.extractLsb' 26 6

def wordCode (w : DirWord) : Byte := w.extractLsb' 8 8

def wordParam (w : DirWord) : Byte := w.extractLsb' 0 8

/-- A word with spare bits 0. -/
def mkWord (address : Nat) (code param : Byte) : DirWord :=
  (0 : BitVec 6) ++ BitVec.ofNat 10 address ++ code ++ param

/-! ### Superframes and slots (11 section 11.5) -/

/-- The 78 covered bytes of a downlink superframe. -/
def coveredBytes (f : Superframe) : List Byte :=
  f.number :: f.flags :: byte4 f.word ++ f.slots.toList.flatMap (fun x => x.toList)

/-- The check of a superframe is good (R54). -/
def checkGood (f : Superframe) : Bool := crc16 (coveredBytes f) == f.check

/-- The sync word is present (R54). -/
def syncPresent (f : Superframe) : Bool := f.sync == Config.downlinkSync

/-- The hub found a bad uplink: flag bit 0 (R54). -/
def badUplink (f : Superframe) : Bool := f.flags.getLsbD 0

/-- What the framer hands to the Assembly Unit for a slot (R62). -/
inductive SlotItem where
  | header (stream : Stream) (h : Header)
  | data (stream : Stream) (index : Nat) (symbols : List Byte)
  | nothing
  deriving DecidableEq, Repr

/-- The header fields of slot bytes 1 to 16. -/
def headerOf (x : Slot) : Header where
  tag := word2 x[1] x[2]
  zone := x[3]
  logical := x[4]
  priority := x[5]
  rate := x[6]
  n := word2 x[7] x[8]
  s := word4 x[9] x[10] x[11] x[12]
  o := word4 x[13] x[14] x[15] x[16]

/-- Kind and stream of a slot decide what is handed on (R62). -/
def slotItem (x : Slot) : SlotItem :=
  let kind := x[0].extractLsb' 4 4
  let stream := (x[0].extractLsb' 0 4).toNat
  if 7 < stream then .nothing
  else if kind = 1 then .header (Fin.ofNat 9 stream) (headerOf x)
  else if kind = 2 then .data (Fin.ofNat 9 stream) x[1].toNat (x.toList.drop 2)
  else .nothing

/-! ### Request bodies (R166, 11 section 11.3) -/

/-- What the port makes of a kind and a body before any field is judged. -/
inductive Parsed where
  | request (r : Request)
  | badKind
  | badLength
  deriving DecidableEq, Repr

/-- A request with no body. -/
def parseNone (r : Request) : List Byte → Parsed
  | [] => .request r
  | _ => .badLength

/-- A request whose body is one byte. -/
def parseOne (r : Byte → Request) : List Byte → Parsed
  | [a] => .request (r a)
  | _ => .badLength

def parseParams : List Byte → Parsed
  | [a0, a1, gm, md, w0, w1, sl, h0, h1, g0, g1, g2, g3, hz, en] =>
    .request (.setParameters ⟨word2 a0 a1, gm, md, word2 w0 w1, sl, word2 h0 h1, word4 g0 g1 g2 g3, hz, en⟩)
  | _ => .badLength

def parseSetChannel : List Byte → Parsed
  | [ch, en, rt, l0, l1, l2, l3, k0, k1, k2, k3, t0, t1, t2, t3, g0, g1, g2, g3, dr] =>
    .request (.setChannel ch ⟨en, rt, word4 l0 l1 l2 l3, word4 k0 k1 k2 k3, word4 t0 t1 t2 t3, word4 g0 g1 g2 g3, dr⟩)
  | _ => .badLength

def parseHeader : List Byte → Parsed
  | [t0, t1, z, l, p, r, n0, n1, s0, s1, s2, s3, o0, o1, o2, o3] =>
    .request (.injectHeader ⟨word2 t0 t1, z, l, p, r, word2 n0 n1, word4 s0 s1 s2 s3, word4 o0 o1 o2 o3⟩)
  | _ => .badLength

def parseMap (body : List Byte) : Parsed :=
  if h : body.length = 16 then .request (.writeChannelMap ⟨body.toArray, by simpa using h⟩) else .badLength

/-- The request of a kind and body, or why there is none (R166). -/
def parseRequest (kind : Byte) (body : List Byte) : Parsed :=
  if kind = 0x01 then parseNone .identify body
  else if kind = 0x02 then parseNone .getParameters body
  else if kind = 0x03 then parseParams body
  else if kind = 0x08 then parseOne .getChannel body
  else if kind = 0x09 then parseSetChannel body
  else if kind = 0x0A then match body with
    | [f, c] => .request (.readZones f c)
    | _ => .badLength
  else if kind = 0x0B then match body with
    | f :: c :: rest => .request (.writeZones f c rest)
    | _ => .badLength
  else if kind = 0x0C then parseNone .readChannelMap body
  else if kind = 0x0D then parseMap body
  else if kind = 0x10 then match body with
    | [a, b, c, d] => .request (.setTime (word4 a b c d))
    | _ => .badLength
  else if kind = 0x11 then parseNone .readTime body
  else if kind = 0x18 then match body with
    | [m, md] => .request (.mute m md)
    | _ => .badLength
  else if kind = 0x19 then parseOne .unmute body
  else if kind = 0x1A then parseOne .flush body
  else if kind = 0x1B then match body with
    | [a, b] => .request (.cancel (word2 a b))
    | _ => .badLength
  else if kind = 0x1C then parseOne .queryQueue body
  else if kind = 0x20 then parseHeader body
  else if kind = 0x21 then match body with
    | a :: b :: f :: c :: rest => .request (.injectData (word2 a b) f c rest)
    | _ => .badLength
  else if kind = 0x28 then match body with
    | [a, b, m] => .request (.fetchRecords (word2 a b) m)
    | _ => .badLength
  else if kind = 0x29 then parseNone .readCounts body
  else if kind = 0x2A then parseNone .clearCounts body
  else if kind = 0x30 then parseOne .readLinkStatus body
  else if kind = 0x31 then match body with
    | [a, b, c, d] => .request (.setReplyWord (word4 a b c d))
    | _ => .badLength
  else if kind = 0x38 then parseOne .reset body
  else if kind = 0x3F then match body with
    | f :: c :: rest => .request (.chain f c rest)
    | _ => .badLength
  else .badKind

/-- The kind byte of a request (11 section 11.3). -/
def requestKind : Request → Byte
  | .identify => 0x01
  | .getParameters => 0x02
  | .setParameters _ => 0x03
  | .getChannel _ => 0x08
  | .setChannel _ _ => 0x09
  | .readZones _ _ => 0x0A
  | .writeZones _ _ _ => 0x0B
  | .readChannelMap => 0x0C
  | .writeChannelMap _ => 0x0D
  | .setTime _ => 0x10
  | .readTime => 0x11
  | .mute _ _ => 0x18
  | .unmute _ => 0x19
  | .flush _ => 0x1A
  | .cancel _ => 0x1B
  | .queryQueue _ => 0x1C
  | .injectHeader _ => 0x20
  | .injectData _ _ _ _ => 0x21
  | .fetchRecords _ _ => 0x28
  | .readCounts => 0x29
  | .clearCounts => 0x2A
  | .readLinkStatus _ => 0x30
  | .setReplyWord _ => 0x31
  | .reset _ => 0x38
  | .chain _ _ _ => 0x3F

/-- The body of a request frame: the fields in the order of 11 section 11.3. -/
def requestBody : Request → List Byte
  | .identify | .getParameters | .readChannelMap | .readTime | .readCounts | .clearCounts => []
  | .setParameters p =>
    byte2 p.siteAddress ++ [p.groupMask, p.mode] ++ byte2 p.window ++ [p.slew] ++ byte2 p.holdover ++ byte4 p.guardG
      ++ [p.horizon, p.enables]
  | .getChannel ch | .queryQueue ch => [ch]
  | .setChannel ch f =>
    [ch, f.enabled, f.rate] ++ byte4 f.latency ++ byte4 f.lead ++ byte4 f.tail ++ byte4 f.holdGap ++ [f.dry]
  | .readZones first count => [first, count]
  | .writeZones first count entries => first :: count :: entries
  | .writeChannelMap entries => entries.toList
  | .setTime second => byte4 second
  | .mute mask mode => [mask, mode]
  | .unmute mask | .flush mask => [mask]
  | .cancel batch => byte2 batch
  | .injectHeader h =>
    byte2 h.tag ++ [h.zone, h.logical, h.priority, h.rate] ++ byte2 h.n ++ byte4 h.s ++ byte4 h.o
  | .injectData batch first count segments => byte2 batch ++ first :: count :: segments
  | .fetchRecords start maximum => byte2 start ++ [maximum]
  | .readLinkStatus clear => [clear]
  | .setReplyWord word => byte4 word
  | .reset option => [option]
  | .chain stop count subs => stop :: count :: subs

/-- The request of a request command (log 18). -/
def requestOf : Instr → Option (Byte × Request)
  | .identify tag => some (tag, .identify)
  | .getParameters tag => some (tag, .getParameters)
  | .setParameters tag p => some (tag, .setParameters p)
  | .getChannel tag ch => some (tag, .getChannel ch)
  | .setChannel tag ch f => some (tag, .setChannel ch f)
  | .readZones tag first count => some (tag, .readZones first count)
  | .writeZones tag first count entries => some (tag, .writeZones first count entries)
  | .readChannelMap tag => some (tag, .readChannelMap)
  | .writeChannelMap tag entries => some (tag, .writeChannelMap entries)
  | .setTime tag second => some (tag, .setTime second)
  | .readTime tag => some (tag, .readTime)
  | .muteNow tag mask => some (tag, .mute mask 0)
  | .muteAfter tag mask => some (tag, .mute mask 1)
  | .unmute tag mask => some (tag, .unmute mask)
  | .flush tag mask => some (tag, .flush mask)
  | .cancel tag batch => some (tag, .cancel batch)
  | .queryQueue tag ch => some (tag, .queryQueue ch)
  | .injectHeader tag h => some (tag, .injectHeader h)
  | .injectData tag batch first count segments => some (tag, .injectData batch first count segments)
  | .fetchRecords tag start maximum => some (tag, .fetchRecords start maximum)
  | .readCounts tag => some (tag, .readCounts)
  | .clearCounts tag => some (tag, .clearCounts)
  | .readLinkStatus tag clear => some (tag, .readLinkStatus clear)
  | .setReplyWord tag word => some (tag, .setReplyWord word)
  | .resetFull tag => some (tag, .reset 0)
  | .resetControl tag => some (tag, .reset 1)
  | .chain tag stop count subs => some (tag, .chain stop count subs)
  | .ppsEdge | .midSecondCheck | .fullReset _ | .resetNRelease _ | .clearingComplete | .superframeEnd _ _
  | .uplinkIntervalExpiry | .controlByteArrival _ _ | .interByteTimeout | .unknownKind _ _ _ | .frameTransmitted _
  | .controlReset | .keyInstant _ | .holdKeyInstant _ | .symbolInstant _ | .strobeWithdrawal _ | .tailStart _
  | .endOfAirtime _ | .exciterFaultAssert _ | .exciterFaultClear _ | .pwrwarnAssert | .pwrwarnRelease | .refclkTick
  | .storageDisturbance _ _ => none

/-- Cuts a body part into `count` pieces of `size` bytes. -/
def pieces (size : Nat) : Nat → List Byte → List (List Byte)
  | 0, _ => []
  | count + 1, bytes => bytes.take size :: pieces size count (bytes.drop size)

/-- The sub-requests of a CHAIN, or none where `count` of them do not make up the rest of the body exactly (R173). -/
def parseSubs : Nat → List Byte → Option (List (Byte × List Byte))
  | 0, [] => some []
  | count + 1, k :: l1 :: l0 :: rest =>
    let len := (word2 l1 l0).toNat
    if len ≤ rest.length then (parseSubs count (rest.drop len)).map (fun subs => (k, rest.take len) :: subs) else none
  | _, _ => none

/-- The number of the first field that is out of range, counting from `i` (R166). -/
def firstBad (i : Nat) : List Bool → Option Nat
  | [] => none
  | ok :: rest => if ok then firstBad (i + 1) rest else some i

/-- 00h or 01h (R179). -/
def yesNo (b : Byte) : Bool := b = 0 ∨ b = 1

/-- A channel mask with no bit above bit 3 (R170). -/
def maskOk (b : Byte) : Bool := decide (b.toNat < 16)

/-- The channels of a mask byte. -/
def maskOf (b : Byte) : BitVec 4 := b.extractLsb' 0 4

/-- A notice-enable byte as a set: bit n for kind C0h + n. -/
def noticeSetOf (b : Byte) : NoticeSet :=
  ⟨b.getLsbD 0, b.getLsbD 1, b.getLsbD 2, b.getLsbD 3, b.getLsbD 4, b.getLsbD 5, b.getLsbD 6⟩

/-- A set as a notice-enable byte. -/
def noticeByte (x : NoticeSet) : Nat :=
  x.timebase.toNat + 2 * x.link.toNat + 4 * x.directive.toNat + 8 * x.channel.toNat + 16 * x.exception.toNat
    + 32 * x.map.toNat + 64 * x.power.toNat

/-- The directive mode of a code, if it has one (11 section 11.4). -/
def modeOf (b : Byte) : Option DirectiveMode :=
  if b = 0 then some .auto
  else if b = 1 then some .transparentChange
  else if b = 2 then some .transparentVerified
  else none

/-- The rate of a code: 0 for 1,600 and any other for 3,200; the code is judged before. -/
def rateOf (b : Byte) : Rate := if b = 0 then .r1600 else .r3200

/-- The physical channel of a map entry byte, NONE for FFh (11 section 11.4). -/
def mapEntryOf (b : Byte) : Option Chan := if b.toNat < 4 then some (Fin.ofNat 4 b.toNat) else none

end Sys2Proof.Machine
end

