-- ==== Sys2Proof/Machine/Sequencers.lean ====
section
/-! DEFINITION. The Channel Sequencers' shared operations (chapter 8): mutes, entry into IDLE, release, cut, the judgement at a
key instant, keying, and the decision to go on holding. -/

namespace Sys2Proof.Machine

/-- Makes the CHANNEL notice pending when an operation changed a channel's muted condition (R143, log 20). -/
def noteMuted (s0 s : State) : State := s.pendIf (mutedDiffers s0 s) .channel

/-- Sets or clears a channel's control-port mute (R143). -/
def setPortMute (n : Chan) (b : Bool) (s : State) : State :=
  noteMuted s (s.setSeq n { (s.chan n).seq with portMute := b })

/-- Sets or clears a channel's mute-after pending (R145). -/
def setMuteAfter (n : Chan) (b : Bool) (s : State) : State := s.setSeq n { (s.chan n).seq with muteAfter := b }

/-- Turns a mute-after pending into the control-port mute (R140). -/
def settleMuteAfter (n : Chan) (s : State) : State :=
  if (s.chan n).seq.muteAfter then setPortMute n true (setMuteAfter n false s) else s

/-- Entry into IDLE (R140). -/
def enterIdle (n : Chan) (s : State) : State :=
  settleMuteAfter n (s.setSeq n { (s.chan n).seq with state := .idle, dry := false, sent := 0 })

/-- Symbol lines at rest and strobe withdrawn (R132). -/
def restLines (n : Chan) (s : State) : State := s.setSeq n { (s.chan n).seq with lines := 0, strobe := none }

/-- Removes the active batch, the head, with the symbols sent so far (R131). -/
def retireActive (n : Chan) (o : LaunchOutcome) (s : State) : State :=
  match (s.chan n).queue with
  | h :: _ => retire n h o (s.chan n).seq.sent s
  | [] => s

/-- Ends the active batch and enters IDLE; the key is released with the keyed state (R132). -/
def endActive (n : Chan) (o : LaunchOutcome) (s : State) : State := enterIdle n (retireActive n o s)

/-- The outcome of a batch that ran to its end (R137, R139). -/
def Sequencer.launchOutcome (q : Sequencer) : LaunchOutcome := if q.dry then .launchedDry else .launched

/-- Release at the end of airtime or of a hold (R139, R141). -/
def release (n : Chan) (s : State) : State := endActive n (s.chan n).seq.launchOutcome s

/-- A cut (R144). -/
def cut (n : Chan) (o : LaunchOutcome) (s : State) : State := endActive n o (restLines n s)

/-- Mute NOW in a keyed state, by the table of R144. DESIGN CHOICE (log 30): after symbol N - 1 and before the tail start
symbols sent is N (R131, R136), and the record of the cut carries that N, where R144 speaks of N - 1 or fewer. -/
def cutMuted (n : Chan) (s : State) : State :=
  match (s.chan n).seq.state with
  | .keying => cut n .muted s
  | .sending => cut n .abortedMute s
  | .tail => cut n (s.chan n).seq.launchOutcome s
  | .hold => cut n .muted s
  | .disabled | .idle => s

/-- An exciter fault asserting, by the table of R146. -/
def cutFault (n : Chan) (s : State) : State :=
  match (s.chan n).seq.state with
  | .keying | .sending | .hold => cut n .abortedFault s
  | .tail | .disabled | .idle => s

/-- Holdover expiry (R15, R147). -/
def cutTimebase (n : Chan) (s : State) : State :=
  if (s.chan n).seq.state.keyed then cut n .abortedTimebase s else s

/-- A power warning asserting (R148). -/
def cutPower (n : Chan) (s : State) : State :=
  match (s.chan n).seq.state with
  | .keying | .hold => cut n .power s
  | .sending | .tail | .disabled | .idle => s

/-- A holding sequencer decides again when the entries behind its active batch have changed (R141). -/
def redecide (n : Chan) (s : State) : State :=
  if (s.chan n).seq.state = .hold ∧ (s.chan n).holdsOn = false then release n s else s

/-- The first of the five conditions of R133 that stops an entry at its key instant. A key instant that fired at an edge at
which launching was not allowed finds it not allowed (R4, R8, R51, log 29). -/
def judgeEntry (n : Chan) (e : Entry) (s : State) : Option LaunchOutcome :=
  if e.state ≠ .ready then some .lateData
  else if s.muted n then some .muted
  else if (s.chan n).seq.fault then some .fault
  else if s.tb.launchAllowed = false ∨ e.passed then some .timebase
  else if s.pins.pwrwarn then some .power
  else none

/-- Makes the head ACTIVE and enters KEYING with the active dry state given (R133, R142). -/
def keyHead (n : Chan) (dry : Bool) (s : State) : State :=
  match (s.chan n).queue with
  | h :: rest =>
    let c := s.chan n
    s.setChan n { c with
      queue := { h with state := .active } :: rest
      seq := { c.seq with state := .keying, sent := 0, dry := dry } }
  | [] => s

/-- The symbol of the active batch at the sequencer's next symbol instant (R107). -/
def State.nextSymbol (s : State) (n : Chan) : Sym :=
  match (s.chan n).queue with
  | h :: _ => cellsRead (symbolAddress h.chain (s.chan n).seq.sent) s.pool.cells
  | [] => 0

/-- Presents the next symbol: lines and strobe unless dry, symbols sent, SENDING (R136, R137). -/
def presentSymbol (n : Chan) (s : State) : State :=
  let q := (s.chan n).seq
  let q := if q.dry then q else { q with lines := s.nextSymbol n, strobe := some 0 }
  s.setSeq n { q with state := .sending, sent := q.sent + 1 }

end Sys2Proof.Machine
end

