-- ==== Sys2Proof/Machine/Admission.lean ====
section
/-! DEFINITION. The Zone Map's reads (chapter 2), the launch-time arithmetic (chapter 3), and admission (chapter 7). -/

namespace Sys2Proof.Machine

/-! ### The Zone Map -/

def State.setZone (s : State) (i : Byte) (e : ZoneEntry) : State :=
  { s with zones := { s.zones with entries := s.zones.entries.set i.toNat e i.isLt } }

def State.zone (s : State) (i : Byte) : ZoneEntry := s.zones.entries[i.toNat]'i.isLt

/-- What a class with a value reads as. -/
def classValue (valid : Bool) (dPlus : Fin 100001) : ZoneValue := ⟨valid, (dPlus.val : Int) - 50000⟩

/-- The storage test of an entry (R25, R26): no stored bit differs, one differs, two differ, or more (log 10, log 11).
The value of an entry that agrees or is corrected, with whether it was corrected; none where it cannot be. -/
def ZoneEntry.test (e : ZoneEntry) : Option (ZoneValue × Bool) :=
  match e.flipped with
  | [] => some (e.written, false)
  | [_] => some (e.written, true)
  | [_, _] => none
  | bits =>
    match Config.multiFault e.written bits with
    | .agrees v d => some (classValue v d, false)
    | .correctable v d => some (classValue v d, true)
    | .uncorrectable => none

/-- Reads an entry under the storage check, with the Zone Map's own work on the read (R25, R26). None tells the reader
that the entry was found uncorrectable. -/
def readZone (i : Byte) (s : State) : Option ZoneValue × State :=
  match (s.zone i).test with
  | some (v, false) => (some v, s)
  | some (v, true) =>
    let s := s.setZone i ⟨v, []⟩
    (some v, { s with counts := { s.counts with corrected := countInc s.counts.corrected } })
  | none =>
    let s := s.setZone i .cleared
    let s := { s with zones := { s.zones with tally := satInc 255 s.zones.tally, lastIndex := some i } }
    (none, s.pend .map)

/-- Changes one stored bit: a bit that differed from the written one does so no more (log 10). -/
def toggleBit (b : Nat) : List Nat → List Nat
  | [] => [b]
  | a :: rest => if b < a then b :: a :: rest else if b = a then rest else a :: toggleBit b rest

/-! ### Launch-time arithmetic -/

/-- The instants of a batch (R39 to R43). -/
structure Instants where
  t : SiteTime
  tk : SiteTime
  tend : SiteTime
  deriving DecidableEq, Repr

/-- T, Tk and Tend from S, O, N and the rate, the zone's D, and the channel's L, K and tail (R39 to R43). -/
def launchInstants (sec : BitVec 32) (o n : Nat) (rate : Rate) (d : Int) (c : Settings) : Instants :=
  let t := SiteTime.normalise sec ((o : Int) + (d - (c.latency : Int)))
  { t := t
    tk := t.correct (-(c.lead : Int))
    tend := t.later (n * rate.period + c.tail) }

/-- The window checks (R47): the key distance is T - now less K. -/
def windowCheck (t now : SiteTime) (lead : Nat) (p : Params) : Option LaunchOutcome :=
  let launch := t.diff now
  if launch - (lead : Int) < (p.guardG : Int) then some .late
  else if (p.horizon : Int) * 10000000 < launch then some .tooEarly
  else none

/-- Two airtime intervals intersect (R44). -/
def intersects (tk1 tend1 tk2 tend2 : SiteTime) : Bool := tk1.before tend2 && tk2.before tend1

/-! ### Admission -/

/-- What became of a header: admitted, or discarded with a cause (R93, R171). NOT_CARRIED is the cause that is no outcome. -/
inductive Admit where
  | admitted
  | discarded (o : LaunchOutcome)
  | notCarried
  deriving DecidableEq, Repr

/-- The field ranges of step 2 (R116). -/
def headerInRange (h : Header) : Bool :=
  decide (h.o.toNat < 10000000) && decide (1 ≤ h.n.toNat) && decide (h.n.toNat ≤ 8192) && decide (h.rate.toNat < 2)
    && decide (h.priority.toNat < 4) && decide (h.logical.toNat < 16)

/-- Steps 1 to 5 (R116, R117). -/
def earlyCheck (h : Header) (s : State) : Option LaunchOutcome :=
  if s.pins.pwrwarn then some .power
  else if headerInRange h = false then some .malformed
  else if s.dir.hold then some .held
  else if s.tb.valid = false then some .timebase
  else if s.zones.ready = false then some .mapNotReady
  else none

/-- The Channel Map entry of a logical channel (R32). -/
def State.route (s : State) (logical : Byte) : Option Chan := s.channelMap[logical.toNat % 16]'(Nat.mod_lt _ (by decide))

/-- The batch tag is held by an entry of some queue (R119). -/
def State.tagHeld (s : State) (tag : BitVec 16) : Bool :=
  allChans.any (fun n => (s.chan n).queue.any (fun e => e.tag == tag))

/-- Steps 8 to 10 (R118, R119). -/
def routeCheck (h : Header) (n : Chan) (s : State) : Option LaunchOutcome :=
  if (s.chan n).settings.enabled = false then some .channelDisabled
  else if rateOf h.rate ≠ (s.chan n).settings.rate then some .rateMismatch
  else if s.tagHeld h.tag then some .duplicate
  else none

/-- The overlap set of step 12, in queue order (R121). -/
def overlapSet (x : Instants) (queue : List Entry) : List Entry :=
  queue.filter (fun e => intersects x.tk x.tend e.tk e.tend)

/-- Every member may be displaced: a lower priority, and not ACTIVE (R121). -/
def displaceable (priority : Nat) (es : List Entry) : Bool :=
  es.all (fun e => decide (e.priority.val < priority) && decide (e.state ≠ .active))

/-- The chain lengths of entries together (R123). -/
def chainTotal (es : List Entry) : Nat := (es.map (fun e => e.chain.length)).sum

/-- Steps 11 to 14 (R120 to R123). -/
def placeCheck (h : Header) (n : Chan) (x : Instants) (s : State) : Option LaunchOutcome :=
  let c := s.chan n
  let victims := overlapSet x c.queue
  match windowCheck x.t s.tb.time c.settings.lead s.params with
  | some o => some o
  | none =>
    if displaceable h.priority.toNat victims = false then some .overlap
    else if Config.queueCapacity < c.queue.length - victims.length + 1 then some .queueFull
    else if s.pool.free.length + chainTotal victims < blocksFor h.n.toNat then some .poolEmpty
    else none

/-- Places an entry by its T, never before an ACTIVE head (R111, R113, log 21). -/
def insertEntry (e : Entry) : List Entry → List Entry
  | [] => [e]
  | x :: rest => if x.state ≠ .active ∧ e.t.before x.t then e :: x :: rest else x :: insertEntry e rest

/-- The entry of a new batch (R112). -/
def newEntry (src : Stream) (h : Header) (x : Instants) (chain : List Nat) : Entry where
  tag := h.tag
  zone := h.zone
  priority := Fin.ofNat 4 h.priority.toNat
  source := src
  state := .assembling
  t := x.t
  tk := x.tk
  tend := x.tend
  n := h.n.toNat
  rate := rateOf h.rate
  received := 0
  chain := chain
  passed := false

/-- Stages 2 to 5 of the commit: blocks from the free list's head, the entry, the context, the count (R125). -/
def insertBatch (src : Stream) (h : Header) (n : Chan) (x : Instants) (s : State) : State :=
  let need := blocksFor h.n.toNat
  let e := newEntry src h x (s.pool.free.take need)
  let s := { s with pool := { s.pool with free := s.pool.free.drop need } }
  let s := s.setQueue n (insertEntry e (s.chan n).queue)
  let s := s.setContext src (some ⟨h.tag, n, segmentsFor h.n.toNat, 0, 0⟩)
  { s with counts := { s.counts with admitted := countInc s.counts.admitted } }

/-- The commit (R125): displacement, then the new batch; a holding sequencer then decides again (R141, log 15). -/
def commit (src : Stream) (h : Header) (n : Chan) (x : Instants) (s : State) : State :=
  redecide n (insertBatch src h n x (retireAll n .preempted (overlapSet x (s.chan n).queue) s))

/-- The record of a header discarded at admission (R126). -/
def discardRecord (src : Stream) (h : Header) (o : LaunchOutcome) (n : Option Chan) (t : Option SiteTime) : RecordBody where
  tag := h.tag
  chan := n
  zone := h.zone
  source := src
  outcome := o
  t := t
  received := none
  sent := 0

/-- Steps 8 to 14 and the commit, on the channel that the Channel Map names, with the zone's D. -/
def admitOn (src : Stream) (h : Header) (n : Chan) (d : Int) (s : State) : Admit × State :=
  match routeCheck h n s with
  | some o => (.discarded o, s.writeRecord (discardRecord src h o (some n) none))
  | none =>
    let x := launchInstants h.s h.o.toNat h.n.toNat (rateOf h.rate) d (s.chan n).settings
    match placeCheck h n x s with
    | some o => (.discarded o, s.writeRecord (discardRecord src h o (some n) (some x.t)))
    | none => (.admitted, commit src h n x s)

/-- Steps 6 and 7, on the zone as read, and what follows (R117, R118). -/
def admitZone (src : Stream) (h : Header) (v : Option ZoneValue) (s : State) : Admit × State :=
  match v with
  | none => (.discarded .mapFault, s.writeRecord (discardRecord src h .mapFault none none))
  | some v =>
    if v.valid = false then
      (.discarded .zoneInvalid, s.writeRecord (discardRecord src h .zoneInvalid none none))
    else
      match s.route h.logical with
      | none => (.notCarried, { s with counts := { s.counts with notCarried := countInc s.counts.notCarried } })
      | some n => admitOn src h n v.d s

/-- Admission of a header on a stream whose context is FREE (R115). -/
def admitHeader (src : Stream) (h : Header) (s : State) : Admit × State :=
  match earlyCheck h s with
  | some o => (.discarded o, s.writeRecord (discardRecord src h o none none))
  | none => admitZone src h (readZone h.zone s).1 (readZone h.zone s).2

end Sys2Proof.Machine
end

