-- ==== Sys2Proof/Machine/Assembly.lean ====
section
/-! DEFINITION. The Assembly Unit (chapter 6): headers, data segments, and the removals made by request or directive
(section 7.4). -/

namespace Sys2Proof.Machine

/-- The ASSEMBLING entry that an OPEN context names (R91). -/
def contextEntry (c : Context) (s : State) : Option Entry :=
  (s.chan c.chan).queue.find? (fun e => decide (e.tag = c.tag ∧ e.state = .assembling))

/-- Ends the batch of an OPEN context, TRUNCATED or GAP: entry, blocks and context (R94, R99). A holding sequencer then
decides again (R141, log 15). -/
def endAssembly (k : Stream) (c : Context) (o : LaunchOutcome) (s : State) : State :=
  let s := match contextEntry c s with
    | some e => retire c.chan e o 0 s
    | none => s
  redecide c.chan (s.setContext k none)

/-- A header on a stream: it first truncates the batch of an OPEN context, then goes to admission (R93, R94). -/
def headerSegment (src : Stream) (h : Header) (s : State) : Admit × State :=
  match s.context src with
  | some c => admitHeader src h (endAssembly src c .truncated s)
  | none => admitHeader src h s

/-- What became of a data segment (R97 to R100). -/
inductive SegmentFate where
  | written
  | completed
  | duplicate
  | gap
  | orphan
  deriving DecidableEq, Repr

/-- How many symbols segment `i` contributes to a batch of `n` symbols in `expected` segments (R96). -/
def segmentCount (n expected i : Nat) : Nat := if i + 1 = expected then n - 64 * i else 64

/-- Writes the next expected segment of a context's batch (R96, R97). -/
def writeSegment (k : Stream) (c : Context) (e : Entry) (bytes : List Byte) (s : State) : State :=
  let count := segmentCount e.n c.expected c.next
  let last : Bool := decide (c.next + 1 = c.expected)
  let symbols := (bytes.flatMap symbolsOf).take count
  let cells := cellsWriteAll (symbolAddress e.chain (64 * c.next)) symbols s.pool.cells
  let e' := { e with received := c.received + count, state := if last then .ready else e.state }
  let s := { s with pool := { s.pool with cells := cells } }
  let s := s.setQueue c.chan ((s.chan c.chan).queue.map (fun x => if x = e then e' else x))
  s.setContext k (if last then none else some { c with next := c.next + 1, received := c.received + count })

/-- A data segment on a stream, judged against its context (R97 to R100). -/
def dataSegment (k : Stream) (i : Nat) (bytes : List Byte) (s : State) : SegmentFate × State :=
  match s.context k with
  | none => (.orphan, { s with counts := { s.counts with orphans := countInc s.counts.orphans } })
  | some c =>
    if i < c.next then (.duplicate, s)
    else if c.next < i then (.gap, endAssembly k c .gap s)
    else match contextEntry c s with
      | some e => (if c.next + 1 = c.expected then .completed else .written, writeSegment k c e bytes s)
      | none => (.duplicate, s)

/-- What an INJECT DATA did: segments written, ignored, orphaned, and what ended the batch (R102, R172). -/
structure AssemblyReport where
  written : Nat
  duplicates : Nat
  orphans : Nat
  ready : Bool
  gap : Bool
  deriving DecidableEq, Repr

def AssemblyReport.add (r : AssemblyReport) : SegmentFate → AssemblyReport
  | .written => { r with written := r.written + 1 }
  | .completed => { r with written := r.written + 1, ready := true }
  | .duplicate => { r with duplicates := r.duplicates + 1 }
  | .gap => { r with gap := true }
  | .orphan => { r with orphans := r.orphans + 1 }

/-- Segments of one INJECT DATA, one after another, from index `i` on (R102). -/
def dataSegments (k : Stream) (i : Nat) : List (List Byte) → AssemblyReport → State → AssemblyReport × State
  | [], r, s => (r, s)
  | b :: rest, r, s =>
    let (fate, s) := dataSegment k i b s
    dataSegments k (i + 1) rest (r.add fate) s

/-! ### Flush and cancel (section 7.4) -/

/-- The entries a flush removes: all that are not ACTIVE (R128). -/
def flushable (queue : List Entry) : List Entry := queue.filter (fun e => decide (e.state ≠ .active))

/-- Flushes one channel's queue, in queue order; a holding sequencer then decides again (R128, R141, log 15). -/
def flushChan (n : Chan) (s : State) : State :=
  redecide n (retireAll n .flushed (flushable (s.chan n).queue) s)

/-- Flushes the channels of a mask, 0 to 3 (R128, R85). -/
def flushMask (m : BitVec 4) (s : State) : State := forChans flushChan (maskChans m) s

/-- The queue entry that holds a batch tag, with its channel (R127). -/
def findTag (tag : BitVec 16) (s : State) : Option (Chan × Entry) :=
  allChans.findSome? (fun n => ((s.chan n).queue.find? (fun e => e.tag == tag)).map (fun e => (n, e)))

/-- Cancels an entry that is not ACTIVE; a holding sequencer then decides again (R127, R141). -/
def cancelEntry (n : Chan) (e : Entry) (s : State) : State := redecide n (retire n e .cancelled 0 s)

end Sys2Proof.Machine
end

