-- ==== Sys2Proof/Machine/DirectiveUnit.lean ====
section
/-! DEFINITION. The Directive Unit (chapter 5): addressing, definition, three-look verification, execution, the reply word and
the loss of the link. -/

namespace Sys2Proof.Machine

/-- The word is addressed to this site (R72). -/
def addressedHere (w : DirWord) (p : Params) : Bool :=
  let a := wordAddress w
  if a ≤ 1015 then a == p.siteAddress
  else if a ≤ 1022 then p.groupMask.getLsbD (a - 1016)
  else true

/-- The directives that can be executed (R73). -/
inductive Directive where
  | idle
  | mute (m : BitVec 4)
  | unmute (m : BitVec 4)
  | holdAdmission
  | resumeAdmission
  | dry (m : BitVec 4)
  | live (m : BitVec 4)
  | flush (m : BitVec 4)
  | returnToNormal
  deriving DecidableEq, Repr

/-- A directive with a channel mask, defined when bits 4..7 are clear. -/
def withMask (param : Byte) (f : BitVec 4 → Directive) : Option Directive :=
  if maskOk param then some (f (maskOf param)) else none

/-- A directive whose parameter must be 0. -/
def withZero (param : Byte) (d : Directive) : Option Directive := if param = 0 then some d else none

/-- The directive a word defines, or none where the word is undefined (R73). -/
def directiveOf (w : DirWord) : Option Directive :=
  let code := wordCode w
  let param := wordParam w
  if wordSpare w ≠ 0 then none
  else if code = 0x00 then withZero param .idle
  else if code = 0x11 then withMask param .mute
  else if code = 0x12 then withMask param .unmute
  else if code = 0x21 then withZero param .holdAdmission
  else if code = 0x22 then withZero param .resumeAdmission
  else if code = 0x31 then withMask param .dry
  else if code = 0x32 then withMask param .live
  else if code = 0x41 then withMask param .flush
  else if code = 0xFF then withZero param .returnToNormal
  else none

/-- The word is defined (R73). -/
def wordDefined (w : DirWord) : Bool := (directiveOf w).isSome

def State.setDir (s : State) (d : Directives) : State := { s with dir := d }

/-- Replaces the latched mute mask (R81, R85, R87). -/
def setMuteMask (m : BitVec 4) (s : State) : State := noteMuted s (s.setDir { s.dir with muteMask := m })

/-- Clears every latched mute bit, the admission hold and every latched dry bit (R85, R87). -/
def clearLatched (s : State) : State :=
  let s := setMuteMask 0 s
  s.setDir { s.dir with hold := false, dryMask := 0 }

/-- Executes a directive (R81 to R85). -/
def executeDirective (d : Directive) (s : State) : State :=
  match d with
  | .idle => s
  | .mute m => forChans cutMuted (maskChans m) (setMuteMask (s.dir.muteMask ||| m) s)
  | .unmute m => setMuteMask (s.dir.muteMask &&& ~~~m) s
  | .holdAdmission => s.setDir { s.dir with hold := true }
  | .resumeAdmission => s.setDir { s.dir with hold := false }
  | .dry m => s.setDir { s.dir with dryMask := s.dir.dryMask ||| m }
  | .live m => s.setDir { s.dir with dryMask := s.dir.dryMask &&& ~~~m }
  | .flush m => flushMask m s
  | .returnToNormal => clearLatched s

/-- The history after a word item (R75). -/
def historyAfter (history : List DirWord) (w : DirWord) (continuous : Bool) : List DirWord :=
  if continuous then
    let h := history ++ [w]
    if 3 < h.length then h.drop 1 else h
  else [w]

/-- Three equal words that differ from the verified word (R76). -/
def verifies (history : List DirWord) (verified w : DirWord) : Bool :=
  decide (history = [w, w, w]) && decide (w ≠ verified)

/-- The action on a verified word (R77, R79). -/
def actOnVerified (w : DirWord) (s : State) : State :=
  match s.params.mode with
  | .auto =>
    let s := s.pend .directive
    if addressedHere w s.params then
      match directiveOf w with
      | some d => executeDirective d s
      | none => s
    else s
  | .transparentVerified => s.pend .directive
  | .transparentChange => s

/-- A word item, in the five steps of R74. -/
def wordItem (w : DirWord) (continuous : Bool) (s : State) : State :=
  let s := s.pendIf (decide (s.params.mode = .transparentChange) && decide (s.dir.lastGood ≠ some w)) .directive
  let s := s.setDir { s.dir with lastGood := some w, history := historyAfter s.dir.history w continuous }
  if verifies s.dir.history s.dir.verified w then actOnVerified w (s.setDir { s.dir with verified := w }) else s

/-- A loss item empties the history (R74, R75). -/
def lossItem (s : State) : State := s.setDir { s.dir with history := [] }

/-- Some latched state is set. -/
def Directives.latched (d : Directives) : Bool := decide (d.muteMask ≠ 0) || d.hold || decide (d.dryMask ≠ 0)

/-- The loss of the link (R87). -/
def linkLost (s : State) : State :=
  let latched := s.dir.latched
  let s := clearLatched s
  let s := s.setDir { s.dir with history := [], verified := 0, lastGood := none }
  s.pendIf latched .directive

/-- The directive part of a control reset (R90). -/
def Directives.controlReset (d : Directives) : Directives :=
  { d with history := [], verified := 0, lastGood := none, muteMask := 0, hold := false, dryMask := 0 }

/-- The reply word in SYNC and FLYWHEEL (R86, R88). -/
def State.replyWord (s : State) : DirWord :=
  let d := s.dir
  let idle := mkWord s.params.siteAddress 0x00 0
  match s.params.mode with
  | .transparentChange | .transparentVerified => d.supplied
  | .auto =>
    if addressedHere d.verified s.params ∧ wordDefined d.verified = false ∧ d.lastGood = some d.verified then
      mkWord s.params.siteAddress 0xE0 (wordCode d.verified)
    else
      match d.lastGood with
      | some w => if addressedHere w s.params then mkWord s.params.siteAddress (wordCode w) (wordParam w) else idle
      | none => idle

end Sys2Proof.Machine
end

