-- ==== Sys2Proof/Machine/LinkFramer.lean ====
section
/-! DEFINITION. The Link Framer (chapter 4): the uplink superframe, hand-over of a processed superframe, and the judgement of a
superframe position in each sync state. -/

namespace Sys2Proof.Machine

def State.setFramer (s : State) (f : Framer) : State := { s with framer := f }

/-- SYNC or FLYWHEEL: superframes are handed on and paced uplinks (R61, R68). -/
def SyncState.running : SyncState → Bool
  | .sync | .flywheel => true
  | .hunt | .confirm => false

/-! ### The uplink (section 4.5) -/

/-- The echo of R66. -/
def State.echo (s : State) : Byte := if s.framer.sync.running then s.framer.lastGood else 0

/-- The reply word an uplink built now carries (R66). -/
def State.uplinkWord (s : State) : DirWord :=
  if s.framer.sync.running then s.replyWord else mkWord s.params.siteAddress 0x00 0

/-- Bytes 2 to 10 of an uplink superframe (11 section 11.7). -/
def State.uplinkCovered (s : State) : List Byte :=
  s.echo :: nat2 s.params.siteAddress ++ [s.statusFlags, s.channelSummary] ++ byte4 s.uplinkWord

/-- The 13 bytes of an uplink superframe built now (R66). -/
def State.uplinkBytes (s : State) : List Byte :=
  byte2 Config.uplinkSync ++ s.uplinkCovered ++ byte2 (crc16 s.uplinkCovered)

/-- Builds and sends an uplink; the far-error flag is then clear (R65, R66, R68). -/
def sendUplink (s : State) : State :=
  s.setFramer { s.framer with uplink := some ⟨s.uplinkBytes, s.framer.reached⟩, farError := false }

/-- The bit on LK_TXD in the LK_CLK period `p`: the uplink's 104 bits, else the ones of FFh fill (R68). -/
def Framer.lineBit (f : Framer) (p : Nat) : Bool :=
  match f.uplink with
  | some u =>
    if u.start ≤ p ∧ p < u.start + 104 then (u.bytes.getD ((p - u.start) / 8) 0xFF).getMsbD ((p - u.start) % 8) else true
  | none => true

/-! ### Hand-over (R61, R62) -/

/-- One slot of a processed superframe. -/
def takeSlot (x : Slot) (s : State) : State :=
  match slotItem x with
  | .header k h => (headerSegment k h s).2
  | .data k i bytes => (dataSegment k i bytes s).2
  | .nothing => s

/-- The four slots, in slot order. -/
def takeSlots (x : Vector Slot 4) (s : State) : State := x.toList.foldl (fun s y => takeSlot y s) s

/-- A processed superframe: number and far-end count, then the word, then the slots (R57, R60, R61, R64). -/
def processSuperframe (f : Superframe) (s : State) : State :=
  let continuous := f.number == s.framer.lastGood + 1
  let s := s.setFramer { s.framer with
    lastGood := f.number
    farEnd := if badUplink f then satInc 255 s.framer.farEnd else s.framer.farEnd }
  takeSlots f.slots (wordItem f.word continuous s)

/-- Entry into HUNT from CONFIRM or FLYWHEEL (R59, R70, R87). -/
def enterHunt (s : State) : State :=
  let s := s.setFramer { s.framer with sync := .hunt, confirm := 0, miss := 0, interval := 0 }
  (linkLost s).pend .link

/-- A position lost in SYNC or FLYWHEEL: near-end count, the far-error flag where the sync word is present, and the loss
item (R57, R58, R64, R65). -/
def losePosition (farError : Bool) (s : State) : State :=
  lossItem (s.setFramer { s.framer with
    nearEnd := satInc 255 s.framer.nearEnd
    farError := s.framer.farError || farError })

/-- The bit positions move on to the end of the position judged; the uplink interval counts in HUNT and CONFIRM (R53, R68). -/
def advanceTo (position : Nat) (s : State) : State :=
  s.setFramer { s.framer with
    reached := position
    expected := position
    interval := if s.framer.sync.running then s.framer.interval else s.framer.interval + (position - s.framer.reached) }

/-- R55: a candidate is accepted or rejected. -/
def judgeHunt (f : Superframe) (s : State) : State :=
  if checkGood f then s.setFramer { s.framer with sync := .confirm, confirm := 1, lastGood := f.number } else s

/-- R56. -/
def judgeConfirm (f : Superframe) (s : State) : State :=
  if syncPresent f && checkGood f then
    let s := s.setFramer { s.framer with confirm := s.framer.confirm + 1, lastGood := f.number }
    if 3 ≤ s.framer.confirm then (s.setFramer { s.framer with sync := .sync, miss := 0 }).pend .link else s
  else enterHunt s

/-- R57. -/
def judgeSync (f : Superframe) (s : State) : State :=
  if syncPresent f then
    if checkGood f then processSuperframe f s else losePosition true s
  else
    let s := losePosition false s
    s.setFramer { s.framer with sync := .flywheel, miss := 1 }

/-- R58. -/
def judgeFlywheel (f : Superframe) (s : State) : State :=
  if syncPresent f then
    if checkGood f then processSuperframe f (s.setFramer { s.framer with sync := .sync, miss := 0 })
    else losePosition true s
  else
    let s := losePosition false s
    let s := s.setFramer { s.framer with miss := s.framer.miss + 1 }
    if 3 ≤ s.framer.miss then enterHunt s else s

/-- A superframe end (R53, R55 to R58), with the uplink of a position judged in SYNC or FLYWHEEL (R68). In HUNT a position
without the sync word is no candidate and no event (log 13). -/
def superframeEnd (searched : Nat) (f : Superframe) (s : State) : State :=
  match s.framer.sync with
  | .hunt =>
    if syncPresent f then judgeHunt f (advanceTo (s.framer.expected + searched + Config.superframeBits) s) else s
  | .confirm => judgeConfirm f (advanceTo (s.framer.expected + Config.superframeBits) s)
  | .sync => sendUplink (judgeSync f (advanceTo (s.framer.expected + Config.superframeBits) s))
  | .flywheel => sendUplink (judgeFlywheel f (advanceTo (s.framer.expected + Config.superframeBits) s))

/-- The uplink interval completes 656 periods in HUNT or CONFIRM (R68, log 12). -/
def uplinkInterval (s : State) : State :=
  if s.framer.sync.running then s
  else
    let f := s.framer
    sendUplink (s.setFramer { f with
      reached := f.reached + (Config.superframeBits - f.interval)
      interval := f.interval - Config.superframeBits })

/-- The framer after a control reset: as after a full reset, but an uplink under way is completed and the search begins
with the next bit (R71). -/
def Framer.controlReset (f : Framer) : Framer :=
  { Framer.resetValue with reached := f.reached, expected := f.reached, uplink := f.uplink }

end Sys2Proof.Machine
end

