-- ==== Sys2Proof/Machine/Clock.lean ====
section
/-! DEFINITION. The Timebase's operations (chapter 1): what a PPS edge and the mid-second check do in each state. -/

namespace Sys2Proof.Machine

def State.setTb (s : State) (t : Timebase) : State := { s with tb := t }

/-- The edge error of an offset (R6). -/
def edgeError (offset : Nat) : Int := if offset < 5000000 then (offset : Int) else (offset : Int) - 10000000

/-- |x| is at most the lock window (section 1.5). -/
def inWindow (x : Int) (w : Nat) : Bool := decide (x.natAbs ≤ w)

/-- A correction clamped to the slew limit (R10). -/
def clampSlew (c : Int) (slew : Nat) : Int :=
  if (slew : Int) < c then slew else if c < -(slew : Int) then -(slew : Int) else c

/-- What an edge does to the offset: a step, or a correction, of 0 ticks where the handling leaves it (R18). -/
inductive Move where
  | step
  | adjust (c : Int)
  deriving DecidableEq, Repr

/-- Moves site time at an edge of error `e`, with a pending time set applied and the mid-second check scheduled anew after
a step or a load (R2, R5, R18, log 22). -/
def Timebase.move (t : Timebase) (e : Int) (m : Move) : Timebase :=
  match m, t.pendingSet with
  | .step, none => let x := t.time.stepAt e; { t with time := x, nextCheck := x.nextMidSecond }
  | .step, some v =>
    let x : SiteTime := ⟨v, 0⟩
    { t with time := x, nextCheck := x.nextMidSecond, pendingSet := none, valid := true }
  | .adjust c, none => { t with time := t.time.correct c }
  | .adjust c, some v =>
    let x := SiteTime.correct ⟨if 0 ≤ e then v else v - 1, t.time.offset⟩ c
    { t with time := x, nextCheck := x.nextMidSecond, pendingSet := none, valid := true }

/-- Entry into HOLDOVER (R11). -/
def Timebase.enterHoldover (t : Timebase) : Timebase :=
  { t with state := .holdover, elapsed := 0, good := 0, agree := 0, stepPending := false }

/-- Entry into FREE (R7). -/
def Timebase.enterFree (t : Timebase) : Timebase :=
  { t with state := .free, stepPending := false, good := 0, outlier := 0, agree := 0 }

/-- One more good edge; the fourth in a row leads to LOCKED (R8, R12). -/
def Timebase.goodEdge (t : Timebase) : Timebase :=
  if 4 ≤ t.good + 1 then { t with good := t.good + 1, state := .locked, outlier := 0 } else { t with good := t.good + 1 }

/-- ACQUIRE (R8). -/
def Timebase.edgeAcquire (t : Timebase) (e : Int) (p : Params) : Timebase :=
  if inWindow e p.window then (t.move e (.adjust (-e))).goodEdge else { t.move e .step with good := 0 }

/-- LOCKED (R10, R11). -/
def Timebase.edgeLocked (t : Timebase) (e : Int) (p : Params) : Timebase :=
  if inWindow e p.window then { t.move e (.adjust (clampSlew (-e) p.slew)) with outlier := 0 }
  else
    let t := { t.move e (.adjust 0) with outlier := t.outlier + 1 }
    if 3 ≤ t.outlier then t.enterHoldover else t

/-- HOLDOVER (R12 to R14); `idle` tells that every Channel Sequencer is IDLE or DISABLED. -/
def Timebase.edgeHoldover (t : Timebase) (e : Int) (p : Params) (idle : Bool) : Timebase :=
  if inWindow e p.window then
    { t.move e (.adjust (clampSlew (-e) p.slew)) with agree := 0, stepPending := false }.goodEdge
  else if inWindow (e - t.lastError) p.window then
    if t.stepPending then
      if idle then { t.move e .step with stepPending := false, good := 0, agree := 0, state := .acquire }
      else { t.move e (.adjust 0) with good := 0 }
    else { t.move e (.adjust 0) with good := 0, agree := t.agree + 1, stepPending := decide (4 ≤ t.agree + 1) }
  else { t.move e (.adjust 0) with good := 0, agree := 1, stepPending := false }

/-- The whole handling of an edge by the Timebase (R6). -/
def Timebase.edge (t : Timebase) (p : Params) (idle : Bool) : Timebase :=
  let e := edgeError t.time.offset
  let t := match t.state with
    | .free => { t.move e .step with good := 0, state := .acquire }
    | .acquire => t.edgeAcquire e p
    | .locked => t.edgeLocked e p
    | .holdover => t.edgeHoldover e p idle
  { t with lastError := e, edgeSeen := true }

/-- The changes that make the TIMEBASE notice pending (R20). -/
def timebaseChanged (a b : Timebase) : Bool :=
  decide (a.state ≠ b.state) || (!a.valid && b.valid) || (a.stepPending != b.stepPending)

/-- Replaces the Timebase, with its notice (R20). -/
def changeTimebase (t : Timebase) (s : State) : State :=
  let changed := timebaseChanged s.tb t
  (s.setTb t).pendIf changed .timebase

/-- The edge is handled in FREE or ACQUIRE, or its step leads to ACQUIRE: the key instants that it passes fire with launching
not allowed (R4, R8, R14). -/
def Timebase.edgeBars (t t' : Timebase) : Bool :=
  decide (t.state = .free) || decide (t.state = .acquire) || decide (t'.state = .acquire)

/-- Marks an entry not yet keyed whose key instant is due at `now`. -/
def Entry.markPassed (now : SiteTime) (e : Entry) : Entry :=
  if e.state ≠ .active ∧ e.tk.due now then { e with passed := true } else e

/-- Marks the entries whose key instants have been passed, in every queue (log 29). -/
def markPassed (s : State) : State :=
  { s with channels := s.channels.map (fun c => { c with queue := c.queue.map (Entry.markPassed s.tb.time) }) }

/-- PPS_EDGE (R6). -/
def ppsEdge (s : State) : State :=
  let t := s.tb.edge s.params s.allIdle
  let bars := s.tb.edgeBars t
  let s := changeTimebase t s
  if bars then markPassed s else s

/-- Holdover has expired at this check (R15). -/
def Timebase.expires (t : Timebase) (p : Params) : Bool :=
  decide (t.state = .holdover) && decide (p.holdover < t.elapsed + 1)

/-- The whole handling of the mid-second check by the Timebase (R5, R7, R9, R11, R15). -/
def Timebase.check (t : Timebase) (p : Params) : Timebase :=
  let t' := { t with edgeSeen := false, nextCheck := ⟨t.nextCheck.second + 1, 5000000⟩ }
  match t.state with
  | .free => t'
  | .acquire => if t.edgeSeen then t' else t'.enterFree
  | .locked => if t.edgeSeen then t' else t'.enterHoldover
  | .holdover =>
    let t' := { t' with elapsed := t.elapsed + 1 }
    if t.expires p then t'.enterFree else t'

/-- MID_SECOND_CHECK when it is due (R5), with the cuts of a holdover expiry (R15). -/
def midSecondCheck (s : State) : State :=
  if s.tb.nextCheck.due s.tb.time then
    let expired := s.tb.expires s.params
    let s := changeTimebase (s.tb.check s.params) s
    if expired then forChans cutTimebase allChans s else s
  else s

/-- The strobe's count of ticks (R132). -/
def tickStrobe (q : Sequencer) : Sequencer :=
  { q with strobe := q.strobe.map (fun k => satInc Config.strobeTicks k) }

/-- REFCLK_TICK (R1), with the counts of ticks of the clearing (R23) and of the strobes (R132). -/
def refclkTick (s : State) : State :=
  { s with
    tb := { s.tb with time := s.tb.time.tick }
    zones := { s.zones with clearing := s.zones.clearing.map (fun k => satInc Config.clearingTicks k) }
    channels := s.channels.map (fun c => { c with seq := tickStrobe c.seq }) }

end Sys2Proof.Machine
end

