-- ==== Sys2Proof/Machine/Reports.lean ====
section
/-! DEFINITION. What the part reports: the contents of replies and notices (chapter 11), the sending of notices (R174), and the
output queue. -/

namespace Sys2Proof.Machine

/-! ### Contents (11 sections 11.3 and 11.4) -/

/-- The timebase report (R20). -/
def State.timebaseReport (s : State) : List Byte :=
  let t := s.tb
  byte1 t.state.code ++ flag1 t.valid ++ time8 t.time ++ int4 t.lastError ++ byte1 t.good ++ byte1 t.outlier
    ++ byte1 t.agree ++ nat2 t.elapsed ++ flag1 t.stepPending ++ flag1 t.pendingSet.isSome ++ byte4 (t.pendingSet.getD 0)

/-- The parameter record (R167). -/
def Params.bytes (p : Params) : List Byte :=
  nat2 p.siteAddress ++ byte1 p.groupMask.toNat ++ byte1 p.mode.code ++ nat2 p.window ++ byte1 p.slew ++ nat2 p.holdover
    ++ nat4 p.guardG ++ byte1 p.horizon ++ byte1 (noticeByte p.enables)

/-- The settings record (R37). -/
def Settings.bytes (c : Settings) : List Byte :=
  flag1 c.enabled ++ byte1 c.rate.code ++ nat4 c.latency ++ nat4 c.lead ++ nat4 c.tail ++ nat4 c.holdGap ++ flag1 c.dry

/-- A zone entry of READ ZONES (R27). -/
def zoneValueBytes (v : ZoneValue) : List Byte := flag1 v.valid ++ int4 v.d

/-- A map entry: the channel, or FFh for NONE. -/
def mapEntryByte : Option Chan → Byte
  | some n => BitVec.ofNat 8 n.val
  | none => 0xFF

/-- A queue entry of QUERY QUEUE, with the symbols sent so far (R129). -/
def Entry.bytes (e : Entry) (sent : Nat) : List Byte :=
  byte2 e.tag ++ [e.zone] ++ byte1 e.priority.val ++ byte1 e.source.val ++ byte1 e.state.code ++ time8 e.t ++ time8 e.tk
    ++ time8 e.tend ++ nat2 e.n ++ byte1 e.rate.code ++ nat2 e.received ++ byte1 e.chain.length
    ++ nat2 (e.chain.headD 0) ++ nat2 sent

/-- The queue report (R129). -/
def State.queueReport (s : State) (n : Chan) : List Byte :=
  let c := s.chan n
  byte1 n.val ++ byte1 c.seq.state.code ++ byte1 c.queue.length
    ++ c.queue.flatMap (fun e => e.bytes (if e.state = .active then c.seq.sent else 0))

/-- A launch record (11 section 11.8). -/
def LaunchRecord.bytes (r : LaunchRecord) : List Byte :=
  byte2 r.seqNo ++ byte2 r.body.tag ++ [mapEntryByte r.body.chan] ++ [r.body.zone] ++ byte1 r.body.source.val
    ++ byte1 r.body.outcome.code.val ++ byte1 (r.body.t.isSome.toNat + 2 * r.body.received.isSome.toNat) ++ byte1 0
    ++ timeOr0 r.body.t ++ nat2 (r.body.received.getD 0) ++ nat2 r.body.sent ++ time8 r.time

/-- The 35 counters in the order of 11 section 11.3, pool low, the free list's length (R159). -/
def State.countsReport (s : State) : List Byte :=
  let c := s.counts
  nat2 c.admitted ++ c.outcomes.toList.flatMap nat2 ++ nat2 c.notCarried ++ nat2 c.orphans ++ nat2 c.corrected
    ++ nat2 c.portErrors ++ nat2 c.overruns ++ flag1 s.pool.low ++ nat2 s.pool.free.length

/-- The link report (R69). -/
def State.linkReport (s : State) : List Byte :=
  let f := s.framer
  byte1 f.sync.code ++ byte1 f.confirm ++ byte1 f.miss ++ [f.lastGood] ++ byte1 f.nearEnd ++ byte1 f.farEnd
    ++ flag1 f.farError

/-- Part code, revision and capacities (R167). -/
def identity : List Byte :=
  nat2 0x5C04 ++ byte1 2 ++ byte1 4 ++ byte1 16 ++ nat2 256 ++ byte1 16 ++ nat2 384 ++ nat2 256 ++ byte1 9 ++ byte1 64
    ++ byte1 4 ++ nat2 1024 ++ byte1 8

/-- The two judgements of a word: addressed in bit 0, defined in bit 1 (R89). -/
def judgements (w : DirWord) (p : Params) : List Byte :=
  byte1 ((addressedHere w p).toNat + 2 * (wordDefined w).toNat)

/-- Channel `n` in the CHANNEL notice (R151); the batch fields are 0 outside the keyed states (log 23). -/
def State.channelReport (s : State) (n : Chan) : List Byte :=
  let q := (s.chan n).seq
  let batch := match (s.chan n).queue with
    | h :: _ => if q.state.keyed then h.tag else 0
    | [] => 0
  byte1 q.state.code
    ++ byte1 (q.portMute.toNat + 2 * q.muteAfter.toNat + 4 * (s.dir.muteMask.getLsbD n.val).toNat + 8 * q.fault.toNat
      + 16 * q.dry.toNat)
    ++ byte2 batch ++ nat2 (if q.state.keyed then q.sent else 0)

/-- The body of a notice, from its owner as it stands (R174). Absent values are sent as 0 (R179). DESIGN CHOICE (log 31): so
are the judgements of a last good word that is absent, which R89 does not speak of. -/
def State.noticeBody (s : State) : NoticeKind → List Byte
  | .timebase => s.timebaseReport
  | .link => byte1 s.framer.sync.code ++ [s.framer.lastGood] ++ byte1 s.framer.nearEnd ++ byte1 s.framer.farEnd
  | .directive =>
    byte1 s.params.mode.code ++ flag1 s.dir.lastGood.isSome ++ byte4 (s.dir.lastGood.getD 0)
      ++ (match s.dir.lastGood with
        | some w => judgements w s.params
        | none => byte1 0)
      ++ byte4 s.dir.verified ++ judgements s.dir.verified s.params ++ byte1 s.dir.muteMask.toNat ++ flag1 s.dir.hold
      ++ byte1 s.dir.dryMask.toNat ++ byte4 s.replyWord
  | .channel => allChans.flatMap s.channelReport
  | .exception =>
    flag1 s.ring.mark.isSome
      ++ (match s.ring.mark with
        | some m => byte2 m.first ++ byte1 m.tally
        | none => nat2 0 ++ byte1 0)
      ++ byte2 s.ring.nextSeq ++ byte1 s.ring.records.length
  | .map =>
    flag1 s.zones.ready ++ byte1 s.zones.tally ++ flag1 s.zones.lastIndex.isSome ++ [s.zones.lastIndex.getD 0]
      ++ nat2 s.counts.corrected
  | .power => flag1 s.pins.pwrwarn ++ allChans.flatMap (fun n => byte1 (s.chan n).seq.state.code)

/-! ### Sending (R165, R174) -/

def State.setPort (s : State) (p : Port) : State := { s with port := p }

/-- Appends a frame to the output queue. -/
def State.enqueue (s : State) (f : Frame) : State := s.setPort { s.port with out := s.port.out ++ [f] }

/-- The level of CP_TXD, true for high, `k` bit times after the oldest waiting frame began: that frame's bits, and the idle
level after them, with no frame waiting, and while RESET_N is asserted (R161, R165, log 19). -/
def State.txdLevel (s : State) (k : Nat) : Bool :=
  match s.pins.resetN, s.port.out with
  | false, f :: _ => f.lineBits.getD k true
  | _, _ => true

/-- The owner's work at sending: the EXCEPTION notice makes the exception mark absent (R157). -/
def noticeSent (k : NoticeKind) (s : State) : State :=
  if k = .exception then { s with ring := { s.ring with mark := none } } else s

/-- Takes a kind out of the pending set, builds its notice with tag 0 and appends it (R174). -/
def sendNotice (k : NoticeKind) (s : State) : State :=
  let f : Frame := ⟨k.code, 0, s.noticeBody k⟩
  noticeSent k ((s.setPort { s.port with notices := s.port.notices.put false k }).enqueue f)

/-- The end of an event: with the output queue empty and no reset pending, the first pending notice is sent (R174, log 16). -/
def settle (s : State) : State :=
  if s.port.out.isEmpty ∧ s.port.resetPending = none then
    match s.port.notices.first? with
    | some k => sendNotice k s
    | none => s
  else s

/-- An event taken by the part: nothing happens while RESET_N is asserted (log 3), and each event ends with `settle`. -/
def event (f : State → State) (s : State) : Host.Outcome State Fault Refusal :=
  .next (if s.pins.resetN then s else settle (f s))

end Sys2Proof.Machine
end

