-- ==== Sys2Proof/Machine/Resets.lean ====
section
/-! DEFINITION. The full reset (R178) and the control reset in its stages (R177). -/

namespace Sys2Proof.Machine

/-- Every block at its full-reset value while the reset lasts: the Zone Map's clearing has not begun and the line rate is
not yet sampled. Kept: the pool's contents (R109), what the Zone Map stores until its clearing completes (R23), the levels
of the inputs, and the commands that wait. -/
def resetBlocks (s : State) : State :=
  { State.reset with
    zones := { ZoneMap.resetValue with entries := s.zones.entries, clearing := none }
    channels := s.channels.map (fun c => .resetValue c.seq.fault)
    pool := ⟨freeListReset, s.pool.cells⟩
    port := .resetValue s.port.lineRate
    pins := s.pins
    pending := s.pending }

/-- RESET_N asserting (R178). -/
def assertReset (s : State) : State :=
  let s := resetBlocks s
  { s with pins := { s.pins with resetN := true } }

/-- The end of a full reset: the clearing begins and the straps are sampled (R23, R161). -/
def endReset (straps : Straps) (s : State) : State :=
  { s with
    zones := { s.zones with ready := false, clearing := some 0 }
    port := { s.port with lineRate := lineRateOf straps }
    pins := { s.pins with resetN := false, straps := straps } }

/-- The full reset of RESET FULL: exactly the effect of RESET_N, ending in the same event (R176, R178, log 4). -/
def requestedFullReset (straps : Straps) (s : State) : State := endReset straps (resetBlocks s)

/-- Stage 2 for one entry: its record, and its context FREE (R110, R130). -/
def dropEntry (n : Chan) (e : Entry) (s : State) : State :=
  let sent := if e.state = .active then (s.chan n).seq.sent else 0
  (s.writeRecord (e.record n .resetDropped sent)).closeContext e

/-- Stage 2 for one channel: each entry in queue order (R130). -/
def dropQueue (n : Chan) (s : State) : State :=
  let s := (s.chan n).queue.foldl (fun s e => dropEntry n e s) s
  s.setQueue n []

/-- Stages 1 and 4 for a sequencer: key released, lines at rest, mutes cleared, IDLE or DISABLED (R152). -/
def Channel.controlReset (c : Channel) : Channel :=
  { c with seq := { c.seq with
      state := if c.settings.enabled then .idle else .disabled
      portMute := false
      muteAfter := false
      dry := false
      sent := 0
      lines := 0
      strobe := none } }

/-- The control reset, in the stages of R177. -/
def controlReset (s : State) : State :=
  let s := forChans dropQueue allChans s
  { s with
    pool := { s.pool with free := freeListReset }
    channels := s.channels.map Channel.controlReset
    dir := s.dir.controlReset
    framer := s.framer.controlReset
    ring := { s.ring with mark := none }
    port := .resetValue s.port.lineRate }

/-- The reset that waits takes place; a full one samples the straps afresh (R176, R178). -/
def takePendingReset (straps : Straps) (s : State) : State :=
  match s.port.resetPending with
  | some .full => requestedFullReset straps s
  | some .control => controlReset s
  | none => s

/-- The stop bit of an output frame's last byte: the frame leaves the queue, and with it the reset whose reply it was takes
place (R165, R176, log 5). -/
def frameTransmitted (straps : Straps) (s : State) : State :=
  match s.port.out with
  | [] => s
  | _ :: rest =>
    let s := s.setPort { s.port with out := rest }
    if rest.isEmpty then takePendingReset straps s else s

/-- A reset is pending, and its reply is the frame on the line or has left it (R176). -/
def resetDue (o : ResetOption) (s : State) : Bool :=
  decide (s.port.resetPending = some o) && decide (s.port.out.length ≤ 1)

end Sys2Proof.Machine
end

