-- ==== Sys2Proof/Machine/Requests.lean ====
section
/-! DEFINITION. The control requests (chapter 10): each one's checks in its owning rule's order, its effect and its reply, and
the execution of a good frame. -/

namespace Sys2Proof.Machine

/-- The result codes (R166, R181). -/
inductive ResultCode where
  | ok | badKind | badLength | badValue | state | notReady | notFound | discarded | notRun
  deriving DecidableEq, Repr

def ResultCode.code : ResultCode → Byte
  | .ok => 0x00
  | .badKind => 0x01
  | .badLength => 0x02
  | .badValue => 0x03
  | .state => 0x04
  | .notReady => 0x05
  | .notFound => 0x06
  | .discarded => 0x07
  | .notRun => 0x08

/-- A reply's body: the result code, then the contents. -/
structure Reply where
  result : ResultCode
  contents : List Byte
  deriving DecidableEq, Repr

def Reply.body (r : Reply) : List Byte := r.result.code :: r.contents

/-- OK with contents. -/
def okWith (contents : List Byte) : Reply := ⟨.ok, contents⟩

/-- A refusal with no further contents. -/
def refusal (c : ResultCode) : Reply := ⟨c, []⟩

/-- BAD_VALUE naming a field (R166). -/
def badField (i : Nat) : Reply := ⟨.badValue, byte1 i⟩

/-- A request that checks its fields: the first bad one is named, else it is executed. -/
def withFields (checks : List Bool) (s : State) (go : Reply × State) : Reply × State :=
  match firstBad 1 checks with
  | some i => (badField i, s)
  | none => go

/-! ### Parameters and tables -/

/-- SET PARAMETERS, field by field (R167, R16, R50, R80). -/
def paramChecks (p : ParamFields) : List Bool :=
  [decide (p.siteAddress.toNat ≤ 1015), decide (p.groupMask.toNat < 128), (modeOf p.mode).isSome,
    decide (2 ≤ p.window.toNat ∧ p.window.toNat ≤ 500), decide (1 ≤ p.slew.toNat ∧ p.slew.toNat ≤ 16),
    decide (10 ≤ p.holdover.toNat ∧ p.holdover.toNat ≤ 3600),
    decide (10000 ≤ p.guardG.toNat ∧ p.guardG.toNat ≤ 1000000),
    decide (1 ≤ p.horizon.toNat ∧ p.horizon.toNat ≤ 120), decide (p.enables.toNat < 128)]

/-- The record that checked fields give. -/
def paramsOf (p : ParamFields) : Params where
  siteAddress := p.siteAddress.toNat
  groupMask := p.groupMask.extractLsb' 0 7
  mode := (modeOf p.mode).getD .auto
  window := p.window.toNat
  slew := p.slew.toNat
  holdover := p.holdover.toNat
  guardG := p.guardG.toNat
  horizon := p.horizon.toNat
  enables := noticeSetOf p.enables

/-- Replaces the parameter record: a new mode or site address empties the three-look history (R80), and a notice kind that
is turned off leaves the pending set (R175). -/
def replaceParams (p : Params) (s : State) : State :=
  let moved : Bool := decide (p.mode ≠ s.params.mode) || decide (p.siteAddress ≠ s.params.siteAddress)
  let s := if moved then s.setDir { s.dir with history := [] } else s
  let s := { s with params := p }
  s.setPort { s.port with notices := s.port.notices.inter p.enables }

def reqSetParameters (p : ParamFields) (s : State) : Reply × State :=
  withFields (paramChecks p) s (okWith [], replaceParams (paramsOf p) s)

/-- R37. -/
def reqGetChannel (ch : Byte) (s : State) : Reply × State :=
  withFields [decide (ch.toNat < 4)] s (okWith (s.chan (Fin.ofNat 4 ch.toNat)).settings.bytes, s)

/-- The channel number, then the seven settings (R35). -/
def settingsChecks (ch : Byte) (f : SettingsFields) : List Bool :=
  [decide (ch.toNat < 4), yesNo f.enabled, decide (f.rate.toNat < 2), decide (f.latency.toNat ≤ 200000),
    decide (f.lead.toNat ≤ 200000), decide (f.tail.toNat ≤ 100000), decide (f.holdGap.toNat ≤ 200000), yesNo f.dry]

def settingsOf (f : SettingsFields) : Settings where
  enabled := f.enabled == 1
  rate := rateOf f.rate
  latency := f.latency.toNat
  lead := f.lead.toNat
  tail := f.tail.toNat
  holdGap := f.holdGap.toNat
  dry := f.dry == 1

/-- Replaces a channel's settings; enabling is an entry into IDLE, disabling an entry into DISABLED (R36, R140). -/
def replaceSettings (n : Chan) (c : Settings) (s : State) : State :=
  let s := s.setChan n { s.chan n with settings := c }
  match (s.chan n).seq.state, c.enabled with
  | .disabled, true => enterIdle n s
  | .idle, false => s.setSeq n { (s.chan n).seq with state := .disabled }
  | _, _ => s

/-- The channel is busy: keyed, or with an entry in its queue (R35 step 3). -/
def Channel.busy (c : Channel) : Bool := c.seq.state.keyed || !c.queue.isEmpty

def reqSetChannel (ch : Byte) (f : SettingsFields) (s : State) : Reply × State :=
  let n := Fin.ofNat 4 ch.toNat
  withFields (settingsChecks ch f) s
    (if (s.chan n).busy then (refusal .state, s) else (okWith [], replaceSettings n (settingsOf f) s))

/-- Reads `count` entries from index `i` on, in ascending order; an uncorrectable one is reported invalid with D = 0
(R27). -/
def readZonesFrom (i : Nat) : Nat → State → List Byte × State
  | 0, s => ([], s)
  | count + 1, s =>
    let (v, s) := readZone (BitVec.ofNat 8 i) s
    let (rest, s) := readZonesFrom (i + 1) count s
    (zoneValueBytes (v.getD ⟨false, 0⟩) ++ rest, s)

/-- R27, in the order of R168: the count, map ready, then the sum. -/
def reqReadZones (first count : Byte) (s : State) : Reply × State :=
  if ¬(1 ≤ count.toNat ∧ count.toNat ≤ 64) then (badField 2, s)
  else if s.zones.ready = false then (refusal .notReady, s)
  else if 256 < first.toNat + count.toNat then (badField 2, s)
  else
    let (bytes, s) := readZonesFrom first.toNat count.toNat s
    (okWith bytes, s)

/-- The D of a zone entry's five bytes. -/
def zoneD (b : List Byte) : Int := (word4 (b.getD 1 0) (b.getD 2 0) (b.getD 3 0) (b.getD 4 0)).toInt

/-- A zone entry's valid flag and D in range (R28). -/
def zoneChecks (b : List Byte) : List Bool :=
  [yesNo (b.getD 0 0), decide (-50000 ≤ zoneD b ∧ zoneD b ≤ 50000)]

/-- Writes entries from index `i` on, each with a fresh check code (R28). -/
def writeZonesFrom (i : Nat) : List (List Byte) → State → State
  | [], s => s
  | b :: rest, s => writeZonesFrom (i + 1) rest (s.setZone (BitVec.ofNat 8 i) ⟨⟨b.getD 0 0 == 1, zoneD b⟩, []⟩)

/-- R28, in the order of R168: the count, the length, map ready, the sum, then the entries as fields 3 on. -/
def reqWriteZones (first count : Byte) (entries : List Byte) (s : State) : Reply × State :=
  let es := pieces 5 count.toNat entries
  if ¬(1 ≤ count.toNat ∧ count.toNat ≤ 64) then (badField 2, s)
  else if entries.length ≠ 5 * count.toNat then (refusal .badLength, s)
  else if s.zones.ready = false then (refusal .notReady, s)
  else if 256 < first.toNat + count.toNat then (badField 2, s)
  else match firstBad 3 (es.flatMap zoneChecks) with
    | some i => (badField i, s)
    | none => (okWith [], writeZonesFrom first.toNat es s)

/-- R33. -/
def reqWriteChannelMap (entries : Vector Byte 16) (s : State) : Reply × State :=
  withFields (entries.toList.map (fun b => decide (b.toNat < 4 ∨ b = 0xFF))) s
    (okWith [], { s with channelMap := entries.map mapEntryOf })

/-- R17. -/
def reqSetTime (second : BitVec 32) (s : State) : Reply × State :=
  if s.tb.launchAllowed then (refusal .state, s)
  else (okWith [], s.setTb { s.tb with pendingSet := some second })

/-! ### Mutes, flush, cancel, queue reports -/

/-- A control-port mute NOW on one channel (R144, R145). -/
def muteNowChan (n : Chan) (s : State) : State := cutMuted n (setMuteAfter n false (setPortMute n true s))

/-- A control-port mute AFTER on one channel, by its state (R145). -/
def muteAfterChan (n : Chan) (s : State) : State :=
  if (s.chan n).seq.portMute then s
  else match (s.chan n).seq.state with
    | .idle => setPortMute n true s
    | .keying | .sending | .tail | .disabled => setMuteAfter n true s
    | .hold => release n (setMuteAfter n true s)

/-- MUTE: the mask, the mode, then each channel in ascending order (R145, R170). -/
def reqMute (mask mode : Byte) (s : State) : Reply × State :=
  withFields [maskOk mask, decide (mode.toNat < 2)] s
    (okWith [], forChans (if mode = 0 then muteNowChan else muteAfterChan) (maskChans (maskOf mask)) s)

/-- R145. -/
def unmuteChan (n : Chan) (s : State) : State := setPortMute n false (setMuteAfter n false s)

def reqUnmute (mask : Byte) (s : State) : Reply × State :=
  withFields [maskOk mask] s (okWith [], forChans unmuteChan (maskChans (maskOf mask)) s)

/-- The entries a flush removes from each channel (R128). -/
def flushCounts (m : BitVec 4) (s : State) : List Byte :=
  allChans.flatMap (fun n => byte1 (if m.getLsbD n.val then (flushable (s.chan n).queue).length else 0))

def reqFlush (mask : Byte) (s : State) : Reply × State :=
  withFields [maskOk mask] s (okWith (flushCounts (maskOf mask) s), flushMask (maskOf mask) s)

/-- R127. -/
def reqCancel (batch : BitVec 16) (s : State) : Reply × State :=
  match findTag batch s with
  | none => (refusal .notFound, s)
  | some (n, e) =>
    if e.state = .active then (refusal .state, s)
    else (okWith (byte1 n.val ++ byte1 e.state.code), cancelEntry n e s)

/-- R129. -/
def reqQueryQueue (ch : Byte) (s : State) : Reply × State :=
  withFields [decide (ch.toNat < 4)] s (okWith (s.queueReport (Fin.ofNat 4 ch.toNat)), s)

/-! ### Injection -/

/-- A discard's cause: an outcome code, or 1Dh for NOT_CARRIED (R181). -/
def admitReply : Admit → Reply
  | .admitted => okWith []
  | .discarded o => ⟨.discarded, byte1 o.code.val⟩
  | .notCarried => ⟨.discarded, [0x1D]⟩

/-- R171. -/
def reqInjectHeader (h : Header) (s : State) : Reply × State :=
  let (a, s) := headerSegment 8 h s
  (admitReply a, s)

/-- The reply of INJECT DATA, by its report and the state it left (R172). -/
def dataReply (r : AssemblyReport) (s : State) : Reply :=
  let three := byte1 r.written ++ byte1 r.duplicates ++ byte1 r.orphans
  if r.gap then ⟨.discarded, byte1 LaunchOutcome.gap.code.val ++ three⟩
  else if r.ready then okWith (byte1 1 ++ three ++ byte1 0)
  else okWith (byte1 0 ++ three ++ byte1 ((s.context 8).elim 0 (fun c => c.next)))

/-- R172: the fixed fields, the length, then the context's tag (R102). -/
def reqInjectData (batch : BitVec 16) (first count : Byte) (segments : List Byte) (s : State) : Reply × State :=
  if 127 < first.toNat then (badField 2, s)
  else if ¬(1 ≤ count.toNat ∧ count.toNat ≤ 8) then (badField 3, s)
  else if 128 < first.toNat + count.toNat then (badField 3, s)
  else if segments.length ≠ 16 * count.toNat then (refusal .badLength, s)
  else match s.context 8 with
    | none => (refusal .notFound, s)
    | some c =>
      if c.tag ≠ batch then (refusal .notFound, s)
      else
        let (r, s) := dataSegments 8 first.toNat (pieces 16 count.toNat segments) ⟨0, 0, 0, false, false⟩ s
        (dataReply r s, s)

/-! ### Records, counts, link -/

/-- The records a fetch returns (R155). -/
def fetched (r : Ring) (start : BitVec 16) (maximum : Nat) : List LaunchRecord :=
  let d := (start - r.nextSeq).toInt
  let held : Int := r.records.length
  if 0 ≤ d then []
  else if -held ≤ d then (r.records.drop (held + d).toNat).take maximum
  else r.records.take maximum

/-- R155, R156. -/
def reqFetchRecords (start : BitVec 16) (maximum : Byte) (s : State) : Reply × State :=
  let rs := fetched s.ring start maximum.toNat
  withFields [true, decide (1 ≤ maximum.toNat ∧ maximum.toNat ≤ 8)] s
    (okWith (byte1 s.ring.records.length ++ byte2 s.ring.nextSeq ++ byte1 rs.length
      ++ rs.flatMap (fun r => r.bytes)), s)

/-- R159. -/
def reqClearCounts (s : State) : Reply × State := (okWith s.countsReport, { s with counts := .resetValue })

/-- R69. -/
def reqReadLinkStatus (clear : Byte) (s : State) : Reply × State :=
  withFields [yesNo clear] s
    (okWith s.linkReport, if clear = 1 then s.setFramer { s.framer with nearEnd := 0, farEnd := 0 } else s)

/-- R88. -/
def reqSetReplyWord (w : DirWord) (s : State) : Reply × State :=
  withFields [decide (wordSpare w = 0)] s (okWith [], s.setDir { s.dir with supplied := w })

/-- RESET: reset pending is set, the frame being assembled and the timeout are gone (R176). -/
def reqReset (option : Byte) (s : State) : Reply × State :=
  withFields [decide (option.toNat < 2)] s
    (okWith [], s.setPort { s.port with
      frame := none
      timeout := none
      resetPending := some (if option = 0 then .full else .control) })

/-! ### Execution -/

/-- A request other than CHAIN and RESET, which alone may not stand inside a CHAIN (R173). -/
def runPlain (r : Request) (s : State) : Reply × State :=
  match r with
  | .identify => (okWith identity, s)
  | .getParameters => (okWith s.params.bytes, s)
  | .setParameters p => reqSetParameters p s
  | .getChannel ch => reqGetChannel ch s
  | .setChannel ch f => reqSetChannel ch f s
  | .readZones first count => reqReadZones first count s
  | .writeZones first count entries => reqWriteZones first count entries s
  | .readChannelMap => (okWith (s.channelMap.toList.map mapEntryByte), s)
  | .writeChannelMap entries => reqWriteChannelMap entries s
  | .setTime second => reqSetTime second s
  | .readTime => (okWith s.timebaseReport, s)
  | .mute mask mode => reqMute mask mode s
  | .unmute mask => reqUnmute mask s
  | .flush mask => reqFlush mask s
  | .cancel batch => reqCancel batch s
  | .queryQueue ch => reqQueryQueue ch s
  | .injectHeader h => reqInjectHeader h s
  | .injectData batch first count segments => reqInjectData batch first count segments s
  | .fetchRecords start maximum => reqFetchRecords start maximum s
  | .readCounts => (okWith s.countsReport, s)
  | .clearCounts => reqClearCounts s
  | .readLinkStatus clear => reqReadLinkStatus clear s
  | .setReplyWord w => reqSetReplyWord w s
  | .reset _ => (refusal .badKind, s)
  | .chain _ _ _ => (refusal .badKind, s)

/-- The reply kind of a frame kind: plus 80h, or FFh for an unassigned kind (R166). -/
def replyKind (kind : Byte) : Byte := if kindAssigned kind then kind + 0x80 else 0xFF

/-- One sub-request of a CHAIN (R173). -/
def runSub (kind : Byte) (body : List Byte) (s : State) : Reply × State :=
  if kind = 0x38 ∨ kind = 0x3F then (refusal .badKind, s)
  else match parseRequest kind body with
    | .request r => runPlain r s
    | .badKind => (refusal .badKind, s)
    | .badLength => (refusal .badLength, s)

/-- A sub-request's part of the CHAIN reply (R173). -/
def subReply (kind : Byte) (r : Reply) : List Byte := replyKind kind :: nat2 r.body.length ++ r.body

/-- The sub-requests in order; after a refusal with the stop flag set, the rest are NOT_RUN (R173). -/
def runSubs (stop : Bool) : Bool → List (Byte × List Byte) → State → List Byte × State
  | _, [], s => ([], s)
  | true, (k, _) :: rest, s =>
    let (bytes, s) := runSubs stop true rest s
    (subReply k (refusal .notRun) ++ bytes, s)
  | false, (k, b) :: rest, s =>
    let (r, s) := runSub k b s
    let (bytes, s) := runSubs stop (stop && decide (r.result ≠ .ok)) rest s
    (subReply k r ++ bytes, s)

/-- CHAIN (R173). -/
def reqChain (stop count : Byte) (subs : List Byte) (s : State) : Reply × State :=
  withFields [yesNo stop, decide (1 ≤ count.toNat ∧ count.toNat ≤ 8)] s
    (match parseSubs count.toNat subs with
      | none => (refusal .badLength, s)
      | some subs =>
        let (bytes, s) := runSubs (stop == 1) false subs s
        (okWith bytes, s))

/-- Any request (R166). -/
def runRequest (r : Request) (s : State) : Reply × State :=
  match r with
  | .chain stop count subs => reqChain stop count subs s
  | .reset option => reqReset option s
  | r => runPlain r s

/-- A good frame by kind and body: its reply kind, its reply, and the state it leaves (R166). -/
def runFrame (kind : Byte) (body : List Byte) (s : State) : Reply × State :=
  match parseRequest kind body with
  | .request r => runRequest r s
  | .badKind => (refusal .badKind, s)
  | .badLength => (refusal .badLength, s)

/-- A good frame at its completion (R165, R176): discarded while a reset is pending; an overrun with four frames in the
output queue; else executed, its reply appended. -/
def acceptFrame (kind tag : Byte) (run : State → Reply × State) (s : State) : State :=
  if s.port.resetPending.isSome then s
  else if Config.outputCapacity ≤ s.port.out.length then
    { s with counts := { s.counts with overruns := countInc s.counts.overruns } }
  else
    let (r, s) := run s
    s.enqueue ⟨replyKind kind, tag, r.body⟩

/-- A good frame of a request's kind (log 18). -/
def acceptRequest (tag : Byte) (r : Request) (s : State) : State := acceptFrame (requestKind r) tag (runRequest r) s

/-! ### The receive assembler (R162 to R164) -/

/-- Back to OUTSIDE; the timeout is none. -/
def frameDone (s : State) : State := s.setPort { s.port with frame := none, timeout := none }

/-- A frame abandoned or dropped (R164). -/
def abandonFrame (s : State) : State :=
  let s := frameDone s
  { s with counts := { s.counts with portErrors := countInc s.counts.portErrors } }

/-- Stores a byte in the frame and sets the inter-byte timeout (R163). -/
def storeByte (bytes : List Byte) (s : State) : State :=
  s.setPort { s.port with frame := some bytes, timeout := some (s.tb.time.later Config.interByteTicks) }

/-- The body length a frame's second and third bytes give. -/
def frameLength (bytes : List Byte) : Nat := (word2 (bytes.getD 1 0) (bytes.getD 2 0)).toNat

/-- A frame with its last check byte: good and executed, or dropped (R162, R164, R165). -/
def completeFrame (bytes : List Byte) (s : State) : State :=
  let len := frameLength bytes
  let covered := (bytes.drop 1).take (4 + len)
  let kind := bytes.getD 3 0
  if crc16 covered = word2 (bytes.getD (5 + len) 0) (bytes.getD (6 + len) 0) then
    acceptFrame kind (bytes.getD 4 0) (runFrame kind ((bytes.drop 5).take len)) (frameDone s)
  else abandonFrame s

/-- A byte inside a frame: the length is judged at the third byte, the check at the last (R162). -/
def frameByte (bytes : List Byte) (s : State) : State :=
  if bytes.length = 3 ∧ Config.maxBody < frameLength bytes then abandonFrame s
  else if 3 < bytes.length ∧ bytes.length = 7 + frameLength bytes then completeFrame bytes s
  else storeByte bytes s

/-- A byte arrival (R162 to R164, R176). -/
def byteArrival (b : Byte) (framingError : Bool) (s : State) : State :=
  if s.port.resetPending.isSome then s
  else match s.port.frame with
    | none => if b = 0xA5 ∧ framingError = false then storeByte [b] s else s
    | some bytes => if framingError then abandonFrame s else frameByte (bytes ++ [b]) s

/-- The inter-byte timeout fires when due (R163). -/
def interByteTimeout (s : State) : State :=
  match s.port.timeout with
  | some x => if x.due s.tb.time then abandonFrame s else s
  | none => s

end Sys2Proof.Machine
end

