-- ==== Sys2Proof/Machine/ChannelCommands.lean ====
section
/-! DEFINITION. The meanings of the Channel Sequencers' instants and of the pins EXn_FLT and PWRWARN. An instant's command acts
where the sequencer waits for that instant and it is due; else nothing fires (R3, log 2). -/

namespace Sys2Proof.Machine

/-- The key instant of the head in IDLE: the head is keyed, or discarded with the first condition against it (R133,
R134). -/
def keyInstant (n : Chan) (s : State) : State :=
  match (s.chan n).seq.state, (s.chan n).queue with
  | .idle, e :: _ =>
    if s.instantDue n then
      match judgeEntry n e s with
      | none => keyHead n (s.dryAtKeying n) s
      | some o => retire n e o 0 s
    else s
  | _, _ => s

def execKeyInstant (n : Chan) (s : State) : Host.Outcome State Fault Refusal := event (keyInstant n) s

/-- The key instant of the entry behind a held batch: the held batch is recorded, and the entry is taken up without a key
edge, or discarded with the key released (R142). -/
def holdKeyInstant (n : Chan) (s : State) : State :=
  match (s.chan n).seq.state, (s.chan n).queue with
  | .hold, _ :: e :: _ =>
    if s.instantDue n then
      let judged := judgeEntry n e s
      let s := retireActive n (s.chan n).seq.launchOutcome s
      match judged with
      | none => keyHead n (s.chan n).seq.dry s
      | some o => enterIdle n (retire n e o 0 s)
    else s
  | _, _ => s

def execHoldKeyInstant (n : Chan) (s : State) : Host.Outcome State Fault Refusal := event (holdKeyInstant n) s

/-- The sequencer waits for a symbol instant: the batch's T in KEYING, or symbols left in SENDING (R136). -/
def Channel.awaitsSymbol (c : Channel) : Bool :=
  match c.seq.state, c.queue with
  | .keying, _ :: _ => true
  | .sending, e :: _ => decide (c.seq.sent < e.n)
  | _, _ => false

/-- The sequencer waits for the tail start (R138). -/
def Channel.awaitsTail (c : Channel) : Bool :=
  match c.seq.state, c.queue with
  | .sending, e :: _ => decide (e.n ≤ c.seq.sent)
  | _, _ => false

/-- A symbol instant (R136, R137). -/
def symbolInstant (n : Chan) (s : State) : State :=
  if (s.chan n).awaitsSymbol && s.instantDue n then presentSymbol n s else s

def execSymbolInstant (n : Chan) (s : State) : Host.Outcome State Fault Refusal := event (symbolInstant n) s

/-- The strobe is withdrawn once its 500 ticks have passed (R132). -/
def strobeWithdrawal (n : Chan) (s : State) : State :=
  if (s.chan n).seq.strobe = some Config.strobeTicks then s.setSeq n { (s.chan n).seq with strobe := none } else s

def execStrobeWithdrawal (n : Chan) (s : State) : Host.Outcome State Fault Refusal := event (strobeWithdrawal n) s

/-- The tail start (R138). -/
def tailStart (n : Chan) (s : State) : State :=
  if (s.chan n).awaitsTail && s.instantDue n then s.setSeq n { (s.chan n).seq with state := .tail, lines := 0 } else s

def execTailStart (n : Chan) (s : State) : Host.Outcome State Fault Refusal := event (tailStart n) s

/-- The five conditions under which the key is held (R139). -/
def State.holds (s : State) (n : Chan) : Bool :=
  (s.chan n).holdsOn && !(s.chan n).seq.muteAfter && !(s.chan n).seq.fault && !s.pins.pwrwarn

/-- The end of airtime: HOLD or release (R139). -/
def endOfAirtime (n : Chan) (s : State) : State :=
  if (s.chan n).seq.state = .tail ∧ s.instantDue n = true then
    if s.holds n then s.setSeq n { (s.chan n).seq with state := .hold } else release n s
  else s

def execEndOfAirtime (n : Chan) (s : State) : Host.Outcome State Fault Refusal := event (endOfAirtime n) s

/-- The level of EXn_FLT. -/
def setFault (n : Chan) (b : Bool) (s : State) : State := s.setSeq n { (s.chan n).seq with fault := b }

/-- EXn_FLT asserts: the notice, then the cut by state (R146); no change where it stands asserted (log 26). -/
def faultAssert (n : Chan) (s : State) : State :=
  if (s.chan n).seq.fault then s else cutFault n ((setFault n true s).pend .channel)

/-- EXn_FLT clears (R146). -/
def faultClear (n : Chan) (s : State) : State :=
  if (s.chan n).seq.fault then (setFault n false s).pend .channel else s

/-- A change of an input's level: while RESET_N is asserted only the level follows (R152, log 3). -/
def pinEvent (level act : State → State) (s : State) : Host.Outcome State Fault Refusal :=
  .next (if s.pins.resetN then level s else settle (act s))

def execExciterFaultAssert (n : Chan) (s : State) : Host.Outcome State Fault Refusal :=
  pinEvent (setFault n true) (faultAssert n) s

def execExciterFaultClear (n : Chan) (s : State) : Host.Outcome State Fault Refusal :=
  pinEvent (setFault n false) (faultClear n) s

/-- The level of PWRWARN. -/
def setPwrwarn (b : Bool) (s : State) : State := { s with pins := { s.pins with pwrwarn := b } }

/-- PWRWARN asserts: channels in KEYING or HOLD are cut, 0 to 3 (R148), with the notice (R149). -/
def pwrwarnAssert (s : State) : State :=
  if s.pins.pwrwarn then s else forChans cutPower allChans ((setPwrwarn true s).pend .power)

/-- PWRWARN releases (R149). -/
def pwrwarnRelease (s : State) : State := if s.pins.pwrwarn then (setPwrwarn false s).pend .power else s

def execPwrwarnAssert (s : State) : Host.Outcome State Fault Refusal := pinEvent (setPwrwarn true) pwrwarnAssert s

def execPwrwarnRelease (s : State) : Host.Outcome State Fault Refusal := pinEvent (setPwrwarn false) pwrwarnRelease s

end Sys2Proof.Machine
end

