-- ==== Sys2Proof/Machine/LinkCommands.lean ====
section
/-! DEFINITION. The meanings of the distribution-link commands. -/

namespace Sys2Proof.Machine

/-- The last bit of a superframe position (R53). -/
def execSuperframeEnd (searched : Nat) (frame : Superframe) (s : State) : Host.Outcome State Fault Refusal :=
  event (superframeEnd searched frame) s

/-- The uplink interval completes (R68). -/
def execUplinkIntervalExpiry (s : State) : Host.Outcome State Fault Refusal := event uplinkInterval s

end Sys2Proof.Machine
end

