-- ==== Sys2Proof/Machine/PortCommands.lean ====
section
/-! DEFINITION. The meanings of the control-port commands: bytes, the timeout, the output queue, and each request as the arrival
of a good frame of its kind (log 18). -/

namespace Sys2Proof.Machine

/-- A byte arrives at the receive assembler (R162). -/
def execControlByteArrival (byte : Byte) (framingError : Bool) (s : State) : Host.Outcome State Fault Refusal :=
  event (byteArrival byte framingError) s

/-- The inter-byte timeout fires, if it is due (R163). -/
def execInterByteTimeout (s : State) : Host.Outcome State Fault Refusal := event interByteTimeout s

/-- The oldest output frame has left the line (R165), with the strap levels of that moment (R178). -/
def execFrameTransmitted (s : State) (straps : Option Straps := none) : Host.Outcome State Fault Refusal :=
  event (frameTransmitted (straps.getD s.pins.straps)) s

/-- A good frame of a kind; unassigned, it is answered with kind FFh and BAD_KIND (R166, log 18). -/
def execUnknownKind (kind tag : Byte) (body : List Byte) (s : State) : Host.Outcome State Fault Refusal :=
  event (acceptFrame kind tag (runFrame kind body)) s

/-- A good frame of a request. -/
def requestEvent (tag : Byte) (r : Request) (s : State) : Host.Outcome State Fault Refusal := event (acceptRequest tag r) s

/-- R167. -/
def execIdentify (tag : Byte) (s : State) : Host.Outcome State Fault Refusal := requestEvent tag .identify s

/-- R167. -/
def execGetParameters (tag : Byte) (s : State) : Host.Outcome State Fault Refusal := requestEvent tag .getParameters s

/-- R167, R16, R50, R80, R175. -/
def execSetParameters (tag : Byte) (p : ParamFields) (s : State) : Host.Outcome State Fault Refusal :=
  requestEvent tag (.setParameters p) s

/-- R37. -/
def execGetChannel (tag channel : Byte) (s : State) : Host.Outcome State Fault Refusal :=
  requestEvent tag (.getChannel channel) s

/-- R35, R36. -/
def execSetChannel (tag channel : Byte) (settings : SettingsFields) (s : State) : Host.Outcome State Fault Refusal :=
  requestEvent tag (.setChannel channel settings) s

/-- R24, R27. -/
def execReadZones (tag first count : Byte) (s : State) : Host.Outcome State Fault Refusal :=
  requestEvent tag (.readZones first count) s

/-- R24, R28. -/
def execWriteZones (tag first count : Byte) (entries : List Byte) (s : State) : Host.Outcome State Fault Refusal :=
  requestEvent tag (.writeZones first count entries) s

/-- R33. -/
def execReadChannelMap (tag : Byte) (s : State) : Host.Outcome State Fault Refusal := requestEvent tag .readChannelMap s

/-- R33. -/
def execWriteChannelMap (tag : Byte) (entries : Vector Byte 16) (s : State) : Host.Outcome State Fault Refusal :=
  requestEvent tag (.writeChannelMap entries) s

/-- R17. -/
def execSetTime (tag : Byte) (second : BitVec 32) (s : State) : Host.Outcome State Fault Refusal :=
  requestEvent tag (.setTime second) s

/-- R20. -/
def execReadTime (tag : Byte) (s : State) : Host.Outcome State Fault Refusal := requestEvent tag .readTime s

/-- MUTE with mode NOW (R145). -/
def execMuteNow (tag mask : Byte) (s : State) : Host.Outcome State Fault Refusal := requestEvent tag (.mute mask 0) s

/-- MUTE with mode AFTER (R145). -/
def execMuteAfter (tag mask : Byte) (s : State) : Host.Outcome State Fault Refusal := requestEvent tag (.mute mask 1) s

/-- R145. -/
def execUnmute (tag mask : Byte) (s : State) : Host.Outcome State Fault Refusal := requestEvent tag (.unmute mask) s

/-- R128. -/
def execFlush (tag mask : Byte) (s : State) : Host.Outcome State Fault Refusal := requestEvent tag (.flush mask) s

/-- R127. -/
def execCancel (tag : Byte) (batch : BitVec 16) (s : State) : Host.Outcome State Fault Refusal :=
  requestEvent tag (.cancel batch) s

/-- R129. -/
def execQueryQueue (tag channel : Byte) (s : State) : Host.Outcome State Fault Refusal :=
  requestEvent tag (.queryQueue channel) s

/-- R171. -/
def execInjectHeader (tag : Byte) (header : Header) (s : State) : Host.Outcome State Fault Refusal :=
  requestEvent tag (.injectHeader header) s

/-- R102, R172. -/
def execInjectData (tag : Byte) (batch : BitVec 16) (first count : Byte) (segments : List Byte) (s : State) :
    Host.Outcome State Fault Refusal :=
  requestEvent tag (.injectData batch first count segments) s

/-- R155, R156. -/
def execFetchRecords (tag : Byte) (start : BitVec 16) (maximum : Byte) (s : State) : Host.Outcome State Fault Refusal :=
  requestEvent tag (.fetchRecords start maximum) s

/-- R159. -/
def execReadCounts (tag : Byte) (s : State) : Host.Outcome State Fault Refusal := requestEvent tag .readCounts s

/-- R159. -/
def execClearCounts (tag : Byte) (s : State) : Host.Outcome State Fault Refusal := requestEvent tag .clearCounts s

/-- R69. -/
def execReadLinkStatus (tag clear : Byte) (s : State) : Host.Outcome State Fault Refusal :=
  requestEvent tag (.readLinkStatus clear) s

/-- R88. -/
def execSetReplyWord (tag : Byte) (word : DirWord) (s : State) : Host.Outcome State Fault Refusal :=
  requestEvent tag (.setReplyWord word) s

/-- RESET with option FULL (R176). -/
def execResetFull (tag : Byte) (s : State) : Host.Outcome State Fault Refusal := requestEvent tag (.reset 0) s

/-- RESET with option CONTROL (R176). -/
def execResetControl (tag : Byte) (s : State) : Host.Outcome State Fault Refusal := requestEvent tag (.reset 1) s

/-- R173. -/
def execChain (tag stop count : Byte) (subs : List Byte) (s : State) : Host.Outcome State Fault Refusal :=
  requestEvent tag (.chain stop count subs) s

end Sys2Proof.Machine
end

