-- ==== Sys2Proof/Machine/TimeCommands.lean ====
section
/-! DEFINITION. The meanings of the time, reset and storage commands. -/

namespace Sys2Proof.Machine

/-- An active PPS edge (R6). -/
def execPpsEdge (s : State) : Host.Outcome State Fault Refusal := event ppsEdge s

/-- The mid-second check fires, if it is due (R5, log 2). -/
def execMidSecondCheck (s : State) : Host.Outcome State Fault Refusal := event midSecondCheck s

/-- One REFCLK period (R1); site time does not count while RESET_N is asserted (R21). -/
def execRefclkTick (s : State) : Host.Outcome State Fault Refusal := event refclkTick s

/-- A full reset (R178): RESET_N asserts, at any time; or the reply of RESET FULL leaves the line, which takes a pending
RESET FULL (R176, log 5). -/
def execFullReset (cause : FullResetCause) (s : State) : Host.Outcome State Fault Refusal :=
  match cause with
  | .resetN => .next (assertReset s)
  | .request straps => event (fun s => if resetDue .full s then requestedFullReset straps s else s) s

/-- RESET_N releases and the reset ends (R23, R161); nothing happens where it was not asserted (log 26). -/
def execResetNRelease (straps : Straps) (s : State) : Host.Outcome State Fault Refusal :=
  .next (if s.pins.resetN then endReset straps s else s)

/-- The clearing completes once its 25,600 ticks have passed (R23, R30). -/
def clearingComplete (s : State) : State :=
  if s.zones.clearing = some Config.clearingTicks then
    { s with zones := { s.zones with
        entries := Vector.replicate 256 ZoneEntry.cleared
        ready := true
        clearing := none } }.pend .map
  else s

def execClearingComplete (s : State) : Host.Outcome State Fault Refusal := event clearingComplete s

/-- The control reset (R177), at the event in which the reply of RESET CONTROL leaves the line (R176, log 5). -/
def execControlReset (s : State) : Host.Outcome State Fault Refusal :=
  event (fun s => if resetDue .control s then controlReset s else s) s

/-- A disturbance of the Zone Map storage: the named stored bits of one entry change (R25, log 10). -/
def disturbZone (zone : Byte) (bits : List Nat) (s : State) : State :=
  let e := s.zone zone
  s.setZone zone { e with flipped := bits.foldl (fun f b => toggleBit b f) e.flipped }

def execStorageDisturbance (zone : Byte) (bits : List Nat) (s : State) : Host.Outcome State Fault Refusal :=
  event (disturbZone zone bits) s

end Sys2Proof.Machine
end

