-- ==== Sys2Proof/Machine/Dispatch.lean ====
section
/-! DEFINITION. The effect of each command on everything but the queue of commands: one arm per constructor. -/

namespace Sys2Proof.Machine

def exec (i : Instr) (s : State) : Host.Outcome State Fault Refusal :=
  match i with
  | .ppsEdge => Sys2Proof.Machine.execPpsEdge s
  | .midSecondCheck => Sys2Proof.Machine.execMidSecondCheck s
  | .fullReset cause => Sys2Proof.Machine.execFullReset cause s
  | .resetNRelease straps => Sys2Proof.Machine.execResetNRelease straps s
  | .clearingComplete => Sys2Proof.Machine.execClearingComplete s
  | .superframeEnd searched frame => Sys2Proof.Machine.execSuperframeEnd searched frame s
  | .uplinkIntervalExpiry => Sys2Proof.Machine.execUplinkIntervalExpiry s
  | .controlByteArrival byte framingError => Sys2Proof.Machine.execControlByteArrival byte framingError s
  | .interByteTimeout => Sys2Proof.Machine.execInterByteTimeout s
  | .unknownKind kind tag body => Sys2Proof.Machine.execUnknownKind kind tag body s
  | .identify tag => Sys2Proof.Machine.execIdentify tag s
  | .getParameters tag => Sys2Proof.Machine.execGetParameters tag s
  | .setParameters tag p => Sys2Proof.Machine.execSetParameters tag p s
  | .getChannel tag channel => Sys2Proof.Machine.execGetChannel tag channel s
  | .setChannel tag channel settings => Sys2Proof.Machine.execSetChannel tag channel settings s
  | .readZones tag first count => Sys2Proof.Machine.execReadZones tag first count s
  | .writeZones tag first count entries => Sys2Proof.Machine.execWriteZones tag first count entries s
  | .readChannelMap tag => Sys2Proof.Machine.execReadChannelMap tag s
  | .writeChannelMap tag entries => Sys2Proof.Machine.execWriteChannelMap tag entries s
  | .setTime tag second => Sys2Proof.Machine.execSetTime tag second s
  | .readTime tag => Sys2Proof.Machine.execReadTime tag s
  | .muteNow tag mask => Sys2Proof.Machine.execMuteNow tag mask s
  | .muteAfter tag mask => Sys2Proof.Machine.execMuteAfter tag mask s
  | .unmute tag mask => Sys2Proof.Machine.execUnmute tag mask s
  | .flush tag mask => Sys2Proof.Machine.execFlush tag mask s
  | .cancel tag batch => Sys2Proof.Machine.execCancel tag batch s
  | .queryQueue tag channel => Sys2Proof.Machine.execQueryQueue tag channel s
  | .injectHeader tag header => Sys2Proof.Machine.execInjectHeader tag header s
  | .injectData tag batch first count segments => Sys2Proof.Machine.execInjectData tag batch first count segments s
  | .fetchRecords tag start maximum => Sys2Proof.Machine.execFetchRecords tag start maximum s
  | .readCounts tag => Sys2Proof.Machine.execReadCounts tag s
  | .clearCounts tag => Sys2Proof.Machine.execClearCounts tag s
  | .readLinkStatus tag clear => Sys2Proof.Machine.execReadLinkStatus tag clear s
  | .setReplyWord tag word => Sys2Proof.Machine.execSetReplyWord tag word s
  | .resetFull tag => Sys2Proof.Machine.execResetFull tag s
  | .resetControl tag => Sys2Proof.Machine.execResetControl tag s
  | .chain tag stop count subs => Sys2Proof.Machine.execChain tag stop count subs s
  | .frameTransmitted straps => Sys2Proof.Machine.execFrameTransmitted s straps
  | .controlReset => Sys2Proof.Machine.execControlReset s
  | .keyInstant n => Sys2Proof.Machine.execKeyInstant n s
  | .holdKeyInstant n => Sys2Proof.Machine.execHoldKeyInstant n s
  | .symbolInstant n => Sys2Proof.Machine.execSymbolInstant n s
  | .strobeWithdrawal n => Sys2Proof.Machine.execStrobeWithdrawal n s
  | .tailStart n => Sys2Proof.Machine.execTailStart n s
  | .endOfAirtime n => Sys2Proof.Machine.execEndOfAirtime n s
  | .exciterFaultAssert n => Sys2Proof.Machine.execExciterFaultAssert n s
  | .exciterFaultClear n => Sys2Proof.Machine.execExciterFaultClear n s
  | .pwrwarnAssert => Sys2Proof.Machine.execPwrwarnAssert s
  | .pwrwarnRelease => Sys2Proof.Machine.execPwrwarnRelease s
  | .refclkTick => Sys2Proof.Machine.execRefclkTick s
  | .storageDisturbance zone bits => Sys2Proof.Machine.execStorageDisturbance zone bits s

end Sys2Proof.Machine
end

