-- ==== Sys2Proof/Safety.lean ====
section
/-! DEFINITION. What counts as a sound state of the SC-4, in the terms the statements use: the ranges and relations that the
rules say hold at all times. -/

namespace Sys2Proof.Machine

/-- RESET_N is not asserted. -/
abbrev Running (s : State) : Prop := s.pins.resetN = false

/-- The port can execute a request: no reset is under way or pending, and fewer than four frames wait (R165, R176). -/
abbrev Accepts (s : State) : Prop :=
  s.pins.resetN = false ∧ s.port.resetPending = none ∧ s.port.out.length < 4

/-- The offset of site time stays within 0..9,999,999 (R1). -/
abbrev TimeInRange (s : State) : Prop := s.tb.time.offset < 10000000

/-- No notice waits while the output queue is empty, unless a reset is pending (R174). -/
abbrev NoticesSent (s : State) : Prop :=
  s.port.out = [] → s.port.resetPending = none → s.port.notices = NoticeSet.empty

/-- The output queue holds at most four frames (R165). -/
abbrev OutputBounded (s : State) : Prop := s.port.out.length ≤ 4

/-- The blocks of the chains of all held batches, channels 0 to 3, in queue order. -/
def State.chainBlocks (s : State) : List Nat :=
  allChans.flatMap (fun n => (s.chan n).queue.flatMap (fun e => e.chain))

/-- Each block is on the free list or in one chain, once (R104). -/
abbrev PoolBalanced (s : State) : Prop := (s.pool.free ++ s.chainBlocks).Perm (List.range 384)

/-- The chain of a batch of N symbols holds ceiling(N / 256) blocks (R104). -/
abbrev ChainsSized (s : State) : Prop := ∀ n : Chan, ∀ e ∈ (s.chan n).queue, e.chain.length = (e.n + 255) / 256

/-- The symbol positions stand in canonical form. -/
abbrev PoolCanonical (s : State) : Prop := s.pool.wf = true

/-- Every count stays within 0..65,535 (R158). -/
abbrev CountsBounded (s : State) : Prop :=
  s.counts.admitted ≤ 65535 ∧ (∀ i : Fin 29, s.counts.outcomes[i] ≤ 65535) ∧ s.counts.notCarried ≤ 65535 ∧
  s.counts.orphans ≤ 65535 ∧ s.counts.corrected ≤ 65535 ∧ s.counts.portErrors ≤ 65535 ∧ s.counts.overruns ≤ 65535

/-- The numbers of `k` records that end just before `next`, oldest first. -/
def seqNumbers (next : BitVec 16) (k : Nat) : List (BitVec 16) :=
  (List.range k).map (fun i => next - BitVec.ofNat 16 (k - i))

/-- At most 64 records, whose sequence numbers run consecutively up to the next number less one (R154). -/
abbrev RingNumbered (s : State) : Prop :=
  s.ring.records.length ≤ 64 ∧
  s.ring.records.map (fun r => r.seqNo) = seqNumbers s.ring.nextSeq s.ring.records.length

/-- Each queue holds at most 16 entries (R111). -/
abbrev QueuesBounded (s : State) : Prop := ∀ n : Chan, (s.chan n).queue.length ≤ 16

/-- The airtime intervals of a queue are pairwise disjoint (R111, R44). -/
abbrev IntervalsDisjoint (s : State) : Prop :=
  ∀ n : Chan, (s.chan n).queue.Pairwise (fun a b => intersects a.tk a.tend b.tk b.tend = false)

/-- The batch tags held, channels 0 to 3, in queue order. -/
def State.tagsHeld (s : State) : List (BitVec 16) :=
  allChans.flatMap (fun n => (s.chan n).queue.map (fun e => e.tag))

/-- No batch tag is held by more than one queue entry (R119). -/
abbrev TagsUnique (s : State) : Prop := s.tagsHeld.Nodup

/-- What a channel's state says of its queue and its lines (R131, R132, R35, R138): DISABLED exactly when not enabled, and
then with an empty queue; keyed exactly when the head is ACTIVE, no other entry ever being so; symbols sent by the state;
symbol lines at rest outside SENDING and in a dry run. -/
abbrev ChannelSound (c : Channel) : Prop :=
  (c.seq.state = .disabled ↔ c.settings.enabled = false) ∧
  (c.seq.state = .disabled → c.queue = []) ∧
  (c.seq.state.keyed = true ↔ ∃ e ∈ c.queue.head?, e.state = .active) ∧
  (∀ e ∈ c.queue.tail, e.state ≠ .active) ∧
  (∀ e ∈ c.queue, 1 ≤ e.n ∧ e.n ≤ 8192) ∧
  (c.seq.state.keyed = false → c.seq.sent = 0 ∧ c.seq.dry = false) ∧
  (c.seq.state = .keying → c.seq.sent = 0) ∧
  (c.seq.state = .sending → 1 ≤ c.seq.sent ∧ ∀ e ∈ c.queue.head?, c.seq.sent ≤ e.n) ∧
  (c.seq.state = .tail ∨ c.seq.state = .hold → ∀ e ∈ c.queue.head?, c.seq.sent = e.n) ∧
  (c.seq.state ≠ .sending ∨ c.seq.dry = true → c.seq.lines = 0)

abbrev ChannelsSound (s : State) : Prop := ∀ n : Chan, ChannelSound (s.chan n)

/-- A sequencer is keyed only while launching is allowed (R133, R19). -/
abbrev KeyedOnlyAllowed (s : State) : Prop :=
  ∀ n : Chan, (s.chan n).seq.state.keyed = true → s.tb.launchAllowed = true

/-- An OPEN context's batch has its one ASSEMBLING entry, with the same tag, source and symbols received, and every
ASSEMBLING entry its OPEN context (R91); a READY or ACTIVE entry has received all its symbols (R97). -/
abbrev ContextsMatch (s : State) : Prop :=
  (∀ k : Stream, ∀ c ∈ s.context k, ∃ e ∈ (s.chan c.chan).queue,
    e.state = .assembling ∧ e.source = k ∧ e.tag = c.tag ∧ e.received = c.received ∧
    c.expected = segmentsFor e.n ∧ c.next < c.expected ∧ c.received = 64 * c.next) ∧
  (∀ n : Chan, ∀ e ∈ (s.chan n).queue,
    (e.state = .assembling → ∃ c ∈ s.context e.source, c.chan = n ∧ c.tag = e.tag) ∧
    (e.state ≠ .assembling → e.received = e.n))

/-- The parameters stand in their ranges (R167). -/
abbrev ParamsInRange (s : State) : Prop :=
  s.params.siteAddress ≤ 1015 ∧ 2 ≤ s.params.window ∧ s.params.window ≤ 500 ∧ 1 ≤ s.params.slew ∧ s.params.slew ≤ 16 ∧
  10 ≤ s.params.holdover ∧ s.params.holdover ≤ 3600 ∧ 10000 ≤ s.params.guardG ∧ s.params.guardG ≤ 1000000 ∧
  1 ≤ s.params.horizon ∧ s.params.horizon ≤ 120

/-- The counts of the Timebase stand in their ranges (chapter 1's table), and step-pending is set exactly while four
displaced edges agree, which only HOLDOVER knows. -/
abbrev TimebaseSound (s : State) : Prop :=
  s.tb.good ≤ 4 ∧ (s.tb.state = .acquire ∨ s.tb.state = .holdover → s.tb.good < 4) ∧
  s.tb.outlier ≤ 3 ∧ (s.tb.state = .locked → s.tb.outlier < 3) ∧
  s.tb.agree ≤ 4 ∧ (s.tb.stepPending = true ↔ s.tb.agree = 4) ∧ (s.tb.stepPending = true → s.tb.state = .holdover) ∧
  s.tb.elapsed ≤ 3601 ∧ (s.tb.state = .holdover → s.tb.elapsed ≤ 3600) ∧
  -5000000 ≤ s.tb.lastError ∧ s.tb.lastError ≤ 4999999

/-! ### Vocabulary of the statements -/

/-- The end of an event that gave the Timebase new values: the TIMEBASE notice is made pending when the state changed, time
valid became set or step-pending changed (R20), and the event ends. -/
def timebaseEvent (s : State) (t : Timebase) : State :=
  settle (State.pendIf { s with tb := t }
    (decide (t.state ≠ s.tb.state ∨ (s.tb.valid = false ∧ t.valid = true) ∨ t.stepPending ≠ s.tb.stepPending)) .timebase)

/-- Good bytes that arrive one after another at the receive assembler. -/
def arrive : List Byte → State → Host.Outcome State Fault Refusal
  | [], s => .next s
  | b :: rest, s =>
    match exec (.controlByteArrival b false) s with
    | .next t => arrive rest t
    | .fault r => .fault r
    | .refused r => .refused r

/-- The queues after an edge that leaves site time at `now` has passed key instants with launching not allowed: each entry
not yet keyed whose key instant is due bears the mark (R4, R8, log 29). -/
def keysPassed (now : SiteTime) (s : State) : State :=
  { s with channels := s.channels.map (fun c => { c with
      queue := c.queue.map (fun e =>
        if e.state ≠ .active ∧ e.tk.diff now ≤ 0 then { e with passed := true } else e) }) }

/-- Launch records written one after another, each with its count, mark and notice (R154, R157, R158). -/
def writeRecords (bs : List RecordBody) (s : State) : State := bs.foldl (fun s b => s.writeRecord b) s

/-- `s` after the active batch `h` at the head of channel `n`'s queue has ended with outcome `o` and the channel has gone to
IDLE with the symbol lines and the strobe as given: its record and count, the mark and EXCEPTION notice of an exception record,
its blocks at the free list's tail, a pending mute-after turned into the mute, with the CHANNEL notice where the channel was
not muted before (R114, R131, R132, R140, R143, R157). -/
def batchEnded (s : State) (n : Chan) (h : Entry) (rest : List Entry) (o : LaunchOutcome) (lines : Sym)
    (strobe : Option Nat) : State :=
  let q := (s.chan n).seq
  let reported : Bool := decide (o ≠ .launched ∧ o ≠ .launchedDry) && s.params.enables.exception
  let mutes : Bool := q.muteAfter && !q.portMute && !s.dir.muteMask.getLsbD n.val && s.params.enables.channel
  let record : LaunchRecord := ⟨s.ring.nextSeq, ⟨h.tag, some n, h.zone, h.source, o, some h.t, some h.received, q.sent⟩,
    s.tb.time⟩
  let mark : Mark := match s.ring.mark with
    | none => ⟨s.ring.nextSeq, 1⟩
    | some m => ⟨m.first, if m.tally < 255 then m.tally + 1 else m.tally⟩
  { s with
    channels := s.channels.set n { s.chan n with
      queue := rest
      seq := ⟨.idle, q.portMute || q.muteAfter, false, q.fault, false, 0, lines, strobe⟩ }
    ring := ⟨(if s.ring.records.length < 64 then s.ring.records else s.ring.records.tail) ++ [record],
      s.ring.nextSeq + 1, if reported then some mark else s.ring.mark⟩
    counts := s.counts.countOutcome o
    pool := ⟨s.pool.free ++ h.chain, s.pool.cells⟩
    port := { s.port with notices := { s.port.notices with
      exception := s.port.notices.exception || reported
      channel := s.port.notices.channel || mutes } } }

/-- `t` is `s` with that batch ended, and nothing else changed. -/
abbrev BatchEnded (s : State) (n : Chan) (h : Entry) (rest : List Entry) (o : LaunchOutcome) (lines : Sym)
    (strobe : Option Nat) (t : State) : Prop := t = batchEnded s n h rest o lines strobe

end Sys2Proof.Machine
end

