-- ==== Sys2Proof/Certificates/Slice0/Obligations.lean ====
section
/-! DEFINITION. The statements for the provers. -/

open Sys2Proof Sys2Proof.Machine

/-! ### Steps, events and resets -/

/-- A step runs the command at the front of the queue on the state with the queue's rest; an empty queue idles (log 1). -/
def Obligations.StepRunsFrontCommand : Prop :=
  (∀ (c : Instr) (s : State), step { s with pending := c :: s.pending } = exec c s) ∧
  (∀ (c : Instr) (rest : List Instr) (s : State), s.pending = c :: rest → step s = exec c { s with pending := rest }) ∧
  (∀ s : State, s.pending = [] → step s = .next s)

/-- Every command answers a next state, in every state, and leaves the queue of commands as it was. -/
def Obligations.EveryCommandAnswersNext : Prop :=
  ∀ (c : Instr) (s : State), ∃ t, exec c s = .next t ∧ t.pending = s.pending

/-- R174, R157: at the end of an event one notice goes out when the output queue is empty and no reset is pending: the first
pending kind in the order C0h to C6h, with tag 0; nothing else changes but the exception mark at an EXCEPTION notice. Readings
or choices of the model: log 16. -/
def Obligations.NoticeSentAtEventEnd : Prop :=
  ∀ s : State,
    (s.port.out ≠ [] ∨ s.port.resetPending ≠ none ∨ (∀ k, s.port.notices.has k = false) → settle s = s) ∧
    (∀ k : NoticeKind, s.port.out = [] → s.port.resetPending = none → s.port.notices.has k = true →
      (∀ j : NoticeKind, j.code.toNat < k.code.toNat → s.port.notices.has j = false) →
      settle s = { s with
        port := { s.port with out := [⟨k.code, 0, s.noticeBody k⟩], notices := s.port.notices.put false k }
        ring := { s.ring with mark := if k = .exception then none else s.ring.mark } })

/-- The values of every block after a full reset, taken through RESET_N asserting and releasing. The levels of the fault
inputs and of PWRWARN stay, and so do the pool's symbols (R109). Readings or choices of the model: log 3. -/
def Obligations.FullResetValues : Prop :=
  ∀ (s : State) (straps : Straps), ∃ t u,
    exec (.fullReset .resetN) s = .next t ∧ t.pins.resetN = true ∧ exec (.resetNRelease straps) t = .next u ∧
    u.tb = ⟨⟨0, 0⟩, .free, false, none, 0, 0, 0, false, 0, 0, false, ⟨0, 5000000⟩⟩ ∧
    u.params = ⟨0, 0, .auto, 20, 4, 300, 50000, 30, ⟨true, true, true, true, true, true, true⟩⟩ ∧
    u.zones.ready = false ∧ u.zones.clearing = some 0 ∧ u.zones.tally = 0 ∧ u.zones.lastIndex = none ∧
    (∀ i : Fin 16, u.channelMap[i] = none) ∧
    (∀ n : Chan, u.chan n = ⟨⟨false, .r3200, 0, 50000, 3125, 0, false⟩, [],
      ⟨.disabled, false, false, (s.chan n).seq.fault, false, 0, 0, none⟩⟩) ∧
    u.framer = ⟨.hunt, 0, 0, 0, 0, 0, 0, 0, false, 0, none⟩ ∧
    u.dir = ⟨[], 0, none, 0, false, 0, 0⟩ ∧
    (∀ k : Stream, u.context k = none) ∧
    u.pool = ⟨List.range 384, s.pool.cells⟩ ∧
    u.ring = ⟨[], 0, none⟩ ∧
    u.counts = ⟨0, Vector.replicate 29 0, 0, 0, 0, 0, 0⟩ ∧
    u.port = ⟨match straps.rate1, straps.rate0 with
      | false, false => .b38400
      | false, true => .b115200
      | true, false => .b460800
      | true, true => .b921600, none, none, [], ⟨false, false, false, false, false, false, false⟩, none⟩ ∧
    u.pins = ⟨false, s.pins.pwrwarn, straps⟩ ∧ u.pending = s.pending

/-- While RESET_N is asserted only RESET_N itself and the levels of EXn_FLT and PWRWARN are followed (log 3). -/
def Obligations.QuietWhileResetAsserted : Prop :=
  ∀ (c : Instr) (s : State), s.pins.resetN = true →
    match c with
    | .fullReset .resetN | .resetNRelease _ => True
    | .exciterFaultAssert n => exec c s = .next (s.setSeq n { (s.chan n).seq with fault := true })
    | .exciterFaultClear n => exec c s = .next (s.setSeq n { (s.chan n).seq with fault := false })
    | .pwrwarnAssert => exec c s = .next { s with pins := { s.pins with pwrwarn := true } }
    | .pwrwarnRelease => exec c s = .next { s with pins := { s.pins with pwrwarn := false } }
    | _ => exec c s = .next s

/-- R177: the control reset, with the records of every entry it drops, in the order of channels and queues. Readings or
choices of the model: log 14. -/
def Obligations.ControlResetStages : Prop :=
  ∀ s : State, Running s → s.port.resetPending = some .control → s.port.out.length ≤ 1 →
    let dropped : List RecordBody := allChans.flatMap (fun n => (s.chan n).queue.map (fun e =>
      ⟨e.tag, some n, e.zone, e.source, .resetDropped, some e.t, some e.received,
        if e.state = .active then (s.chan n).seq.sent else 0⟩))
    let written : List LaunchRecord := dropped.mapIdx (fun i b => ⟨s.ring.nextSeq + BitVec.ofNat 16 i, b, s.tb.time⟩)
    ∃ t, exec .controlReset s = .next t ∧
      t.tb = s.tb ∧ t.params = s.params ∧ t.zones = s.zones ∧ t.channelMap = s.channelMap ∧
      (∀ n : Chan, t.chan n = ⟨(s.chan n).settings, [],
        ⟨if (s.chan n).settings.enabled then .idle else .disabled, false, false, (s.chan n).seq.fault, false, 0, 0,
          none⟩⟩) ∧
      t.framer = ⟨.hunt, s.framer.reached, s.framer.reached, 0, 0, 0, 0, 0, false, 0, s.framer.uplink⟩ ∧
      t.dir = ⟨[], 0, none, 0, false, 0, s.dir.supplied⟩ ∧
      (ContextsMatch s → ∀ k : Stream, t.context k = none) ∧
      t.pool = ⟨List.range 384, s.pool.cells⟩ ∧
      (s.ring.records.length ≤ 64 →
        t.ring = ⟨(s.ring.records ++ written).drop (s.ring.records.length + written.length - 64),
          s.ring.nextSeq + BitVec.ofNat 16 dropped.length, none⟩) ∧
      (s.counts.outcomes[28] ≤ 65535 → t.counts = { s.counts with
        outcomes := s.counts.outcomes.set 28 (min 65535 (s.counts.outcomes[28] + dropped.length)) }) ∧
      t.port = ⟨s.port.lineRate, none, none, [], ⟨false, false, false, false, false, false, false⟩, none⟩ ∧
      t.pins = s.pins ∧ t.pending = s.pending

/-- R165, R174, R176: the oldest frame leaves the output queue; with the last one a pending reset takes place. R178: a full
reset by request has exactly the effect of RESET_N, asserting and releasing, at the event in which the reply leaves the line;
at any other moment the event has no effect. R161, R178: the straps are sampled at that event, with the levels it names, or,
where it names none, those last named. R161: the level of CP_TXD, by the bit times since the oldest waiting frame began.
Readings or choices of the model: logs 4, 5 and 19. -/
def Obligations.FrameTransmittedAndFullReset : Prop :=
  (∀ (s : State) (named : Option Straps), Running s →
      (s.port.out = [] → exec (.frameTransmitted named) s = .next (settle s)) ∧
      (∀ f rest, s.port.out = f :: rest → (rest ≠ [] ∨ s.port.resetPending = none) →
        exec (.frameTransmitted named) s = .next (settle { s with port := { s.port with out := rest } })) ∧
      (∀ f, s.port.out = [f] → s.port.resetPending = some .full →
        exec (.frameTransmitted named) s = exec (.fullReset (.request (named.getD s.pins.straps))) s) ∧
      (∀ f, s.port.out = [f] → s.port.resetPending = some .control →
        exec (.frameTransmitted named) s = exec .controlReset s)) ∧
  (∀ (s : State) (k : Nat),
      (s.pins.resetN = true ∨ s.port.out = [] → s.txdLevel k = true) ∧
      (∀ f rest, Running s → s.port.out = f :: rest →
        (10 * f.bytes.length ≤ k → s.txdLevel k = true) ∧
        (∀ i, i < f.bytes.length → s.txdLevel (10 * i) = false ∧
          (∀ j, j < 8 → s.txdLevel (10 * i + 1 + j) = (f.bytes.getD i 0).getLsbD j) ∧
          s.txdLevel (10 * i + 9) = true))) ∧
  (∀ (s : State) (straps : Straps), Running s →
      (s.port.resetPending = some .full → s.port.out.length ≤ 1 →
        ∃ t u, exec (.fullReset .resetN) s = .next t ∧ exec (.resetNRelease straps) t = .next u ∧
          exec (.fullReset (.request straps)) s = .next u) ∧
      (s.port.resetPending ≠ some .full ∨ 2 ≤ s.port.out.length →
        exec (.fullReset (.request straps)) s = .next (settle s)))

/-! ### Site time and the Timebase -/

/-- R1, R23, R132: one REFCLK period: site time counts, and so do a clearing in progress (to 25,600) and each asserted strobe
(to 500). R23: the clearing completes when its 25,600 ticks have passed, and not before: every entry is invalid with D = 0 and
sound, map ready is set and the MAP notice made pending. R132: the strobe is withdrawn at 500 ticks after its assertion, and
at no other moment. Readings or choices of the model: logs 2 and 28. -/
def Obligations.TicksAreCounted : Prop :=
  (∀ s : State, Running s →
      exec .refclkTick s = .next (settle { s with
        tb := { s.tb with time := if s.tb.time.offset < 9999999 then ⟨s.tb.time.second, s.tb.time.offset + 1⟩
          else ⟨s.tb.time.second + 1, 0⟩ }
        zones := { s.zones with clearing := s.zones.clearing.map (fun k => if k < 25600 then k + 1 else k) }
        channels := s.channels.map (fun c =>
          { c with seq := { c.seq with strobe := c.seq.strobe.map (fun k => if k < 500 then k + 1 else k) } }) })) ∧
  (∀ s : State, Running s →
      (s.zones.clearing = some 25600 → exec .clearingComplete s = .next (settle (State.pend { s with zones := { s.zones with
        entries := Vector.replicate 256 ⟨⟨false, 0⟩, []⟩, ready := true, clearing := none } } .map))) ∧
      (s.zones.clearing ≠ some 25600 → exec .clearingComplete s = .next (settle s))) ∧
  (∀ (s : State) (n : Chan), Running s →
      ((s.chan n).seq.strobe = some 500 →
        exec (.strobeWithdrawal n) s = .next (settle (s.setSeq n { (s.chan n).seq with strobe := none }))) ∧
      ((s.chan n).seq.strobe ≠ some 500 → exec (.strobeWithdrawal n) s = .next (settle s)))

/-- R2, R6 to R8, R18: a PPS edge in FREE and in ACQUIRE, with a pending time set or without. R2, R6, R10, R11, R18: a PPS
edge in LOCKED. The correction is clamped to the slew limit; an edge outside the window is not corrected, and the third in a
row leads to HOLDOVER. R4, R8: the key instants that an edge handled in FREE or ACQUIRE passes are marked. Readings or choices
of the model: logs 22 and 29. -/
def Obligations.PpsEdgeInFreeAcquireLocked : Prop :=
  (∀ s : State, Running s →
      let off := s.tb.time.offset
      let e : Int := if off < 5000000 then (off : Int) else (off : Int) - 10000000
      let inside : Prop := -(s.params.window : Int) ≤ e ∧ e ≤ s.params.window
      let t := { s.tb with lastError := e, edgeSeen := true, pendingSet := none, valid := s.tb.valid || s.tb.pendingSet.isSome }
      let stepped : SiteTime := match s.tb.pendingSet with
        | some v => ⟨v, 0⟩
        | none => if 0 ≤ e then ⟨s.tb.time.second, 0⟩ else ⟨s.tb.time.second + 1, 0⟩
      let corrected : SiteTime := match s.tb.pendingSet with
        | some v => (⟨if 0 ≤ e then v else v - 1, off⟩ : SiteTime).correct (-e)
        | none => s.tb.time.correct (-e)
      (s.tb.state = .free → exec .ppsEdge s = .next (timebaseEvent (keysPassed stepped s)
        { t with time := stepped, nextCheck := stepped.nextMidSecond, good := 0, state := .acquire })) ∧
      (s.tb.state = .acquire → ¬inside → exec .ppsEdge s = .next (timebaseEvent (keysPassed stepped s)
        { t with time := stepped, nextCheck := stepped.nextMidSecond, good := 0 })) ∧
      (s.tb.state = .acquire → inside → exec .ppsEdge s = .next (timebaseEvent (keysPassed corrected s)
        { t with
          time := corrected
          nextCheck := if s.tb.pendingSet.isSome then corrected.nextMidSecond else s.tb.nextCheck
          good := s.tb.good + 1
          state := if 4 ≤ s.tb.good + 1 then .locked else .acquire
          outlier := if 4 ≤ s.tb.good + 1 then 0 else s.tb.outlier }))) ∧
  (∀ s : State, Running s → s.tb.state = .locked →
      let off := s.tb.time.offset
      let e : Int := if off < 5000000 then (off : Int) else (off : Int) - 10000000
      let inside : Prop := -(s.params.window : Int) ≤ e ∧ e ≤ s.params.window
      let c : Int := max (-(s.params.slew : Int)) (min (s.params.slew : Int) (-e))
      let t := { s.tb with lastError := e, edgeSeen := true, pendingSet := none, valid := s.tb.valid || s.tb.pendingSet.isSome }
      let loaded : SiteTime := match s.tb.pendingSet with
        | some v => ⟨if 0 ≤ e then v else v - 1, off⟩
        | none => s.tb.time
      let check (x : SiteTime) : SiteTime := if s.tb.pendingSet.isSome then x.nextMidSecond else s.tb.nextCheck
      s.tb.time.offset < 10000000 →
      (inside → exec .ppsEdge s = .next (timebaseEvent s
        { t with time := loaded.correct c, nextCheck := check (loaded.correct c), outlier := 0 })) ∧
      (¬inside → s.tb.outlier + 1 < 3 → exec .ppsEdge s = .next (timebaseEvent s
        { t with time := loaded, nextCheck := check loaded, outlier := s.tb.outlier + 1 })) ∧
      (¬inside → 3 ≤ s.tb.outlier + 1 → exec .ppsEdge s = .next (timebaseEvent s
        { t with
          time := loaded, nextCheck := check loaded, outlier := s.tb.outlier + 1
          state := .holdover, elapsed := 0, good := 0, agree := 0, stepPending := false })))

/-- R2, R6, R12 to R14, R18: a PPS edge in HOLDOVER: the slewed correction in the window, and outside it the agreement of
edges and the pending step, taken when every channel is IDLE or DISABLED; the step to ACQUIRE marks the key instants that it
passes. Readings or choices of the model: logs 22 and 29. -/
def Obligations.PpsEdgeInHoldover : Prop :=
  ∀ s : State, Running s → s.tb.state = .holdover → s.tb.time.offset < 10000000 →
    let off := s.tb.time.offset
    let e : Int := if off < 5000000 then (off : Int) else (off : Int) - 10000000
    let w : Int := s.params.window
    let inside : Prop := -w ≤ e ∧ e ≤ w
    let agrees : Prop := -w ≤ e - s.tb.lastError ∧ e - s.tb.lastError ≤ w
    let idle : Prop := ∀ n : Chan, (s.chan n).seq.state = .idle ∨ (s.chan n).seq.state = .disabled
    let c : Int := max (-(s.params.slew : Int)) (min (s.params.slew : Int) (-e))
    let t := { s.tb with lastError := e, edgeSeen := true, pendingSet := none, valid := s.tb.valid || s.tb.pendingSet.isSome }
    let stepped : SiteTime := match s.tb.pendingSet with
      | some v => ⟨v, 0⟩
      | none => if 0 ≤ e then ⟨s.tb.time.second, 0⟩ else ⟨s.tb.time.second + 1, 0⟩
    let loaded : SiteTime := match s.tb.pendingSet with
      | some v => ⟨if 0 ≤ e then v else v - 1, off⟩
      | none => s.tb.time
    let check (x : SiteTime) : SiteTime := if s.tb.pendingSet.isSome then x.nextMidSecond else s.tb.nextCheck
    let left := { t with time := loaded, nextCheck := check loaded, good := 0 }
    (inside → exec .ppsEdge s = .next (timebaseEvent s
      { t with
        time := loaded.correct c, nextCheck := check (loaded.correct c), agree := 0, stepPending := false
        good := s.tb.good + 1
        state := if 4 ≤ s.tb.good + 1 then .locked else .holdover
        outlier := if 4 ≤ s.tb.good + 1 then 0 else s.tb.outlier })) ∧
    (¬inside → ¬agrees → exec .ppsEdge s = .next (timebaseEvent s { left with agree := 1, stepPending := false })) ∧
    (¬inside → agrees → s.tb.stepPending = false → exec .ppsEdge s = .next (timebaseEvent s
      { left with agree := s.tb.agree + 1, stepPending := decide (4 ≤ s.tb.agree + 1) })) ∧
    (¬inside → agrees → s.tb.stepPending = true → ¬idle → exec .ppsEdge s = .next (timebaseEvent s left)) ∧
    (¬inside → agrees → s.tb.stepPending = true → idle → exec .ppsEdge s = .next (timebaseEvent (keysPassed stepped s)
      { t with
        time := stepped, nextCheck := stepped.nextMidSecond
        good := 0, agree := 0, stepPending := false, state := .acquire }))

/-- R5, R7, R9, R11, R15: the mid-second check, by state. A check that is not due does not fire (log 2). At a holdover
expiry every keyed channel is cut in the same event, 0 to 3; each goes to IDLE with its lines at rest and its batch gone; in a
sound state the cuts, one after another, are all that happens beside the Timebase's change and its notice. -/
def Obligations.MidSecondCheckByState : Prop :=
  ∀ s : State, Running s →
    let next := { s.tb with edgeSeen := false, nextCheck := ⟨s.tb.nextCheck.second + 1, 5000000⟩ }
    let free := { next with state := .free, stepPending := false, good := 0, outlier := 0, agree := 0 }
    (0 < s.tb.nextCheck.diff s.tb.time → exec .midSecondCheck s = .next (settle s)) ∧
    (s.tb.nextCheck.diff s.tb.time ≤ 0 →
      (s.tb.state = .free → exec .midSecondCheck s = .next (timebaseEvent s next)) ∧
      (s.tb.state = .acquire ∨ s.tb.state = .locked → s.tb.edgeSeen = true →
        exec .midSecondCheck s = .next (timebaseEvent s next)) ∧
      (s.tb.state = .acquire → s.tb.edgeSeen = false → exec .midSecondCheck s = .next (timebaseEvent s free)) ∧
      (s.tb.state = .locked → s.tb.edgeSeen = false → exec .midSecondCheck s = .next (timebaseEvent s
        { next with state := .holdover, elapsed := 0, good := 0, agree := 0, stepPending := false })) ∧
      (s.tb.state = .holdover → s.tb.elapsed + 1 ≤ s.params.holdover →
        exec .midSecondCheck s = .next (timebaseEvent s { next with elapsed := s.tb.elapsed + 1 })) ∧
      (s.tb.state = .holdover → s.params.holdover < s.tb.elapsed + 1 → ∃ t,
        exec .midSecondCheck s = .next t ∧ t.tb = { free with elapsed := s.tb.elapsed + 1 } ∧
        (∀ n : Chan, (s.chan n).seq.state.keyed = false → t.chan n = s.chan n) ∧
        (∀ (n : Chan) (e : Entry) (rest : List Entry), (s.chan n).seq.state.keyed = true →
          (s.chan n).queue = e :: rest →
          t.chan n = { s.chan n with
            queue := rest
            seq := { (s.chan n).seq with
              state := .idle, dry := false, sent := 0, lines := 0, strobe := none, muteAfter := false
              portMute := (s.chan n).seq.portMute || (s.chan n).seq.muteAfter } }) ∧
        (ChannelsSound s →
          let ended : List RecordBody := allChans.flatMap (fun n =>
            if (s.chan n).seq.state.keyed then (s.chan n).queue.head?.toList.map (fun e =>
              ⟨e.tag, some n, e.zone, e.source, .abortedTimebase, some e.t, some e.received, (s.chan n).seq.sent⟩)
            else [])
          t.ring.records = (ended.foldl (fun r b => r.append b s.tb.time) s.ring).records ∧
          t.counts = ended.foldl (fun c b => c.countOutcome b.outcome) s.counts) ∧
        (ChannelsSound s → t = settle (allChans.foldl (fun u n =>
          if (s.chan n).seq.state.keyed then
            match (s.chan n).queue with
            | e :: rest => batchEnded u n e rest .abortedTimebase 0 none
            | [] => u
          else u) (State.pend { s with tb := { free with elapsed := s.tb.elapsed + 1 } } .timebase))) ∧
        t.params = s.params ∧ t.zones = s.zones ∧ t.channelMap = s.channelMap ∧ t.framer = s.framer ∧ t.dir = s.dir ∧
        t.pool.cells = s.pool.cells ∧ t.port.resetPending = s.port.resetPending ∧ t.pins = s.pins))

/-! ### The distribution link -/

/-- R53, R55, R56, R59, R70, R87: a superframe position judged in HUNT or CONFIRM. A position without the sync word is no
event in HUNT (log 13); the loss of the link clears the directives and reports it. Readings or choices of the model: log 12.
-/
def Obligations.SuperframeInHuntAndConfirm : Prop :=
  ∀ (s : State) (searched : Nat) (f : Superframe), Running s →
    let good : Prop := f.sync = 0x6B3C ∧ crc16 (coveredBytes f) = f.check
    let position := s.framer.expected + 656 + (if s.framer.sync = .hunt then searched else 0)
    let moved := { s.framer with
      reached := position, expected := position, interval := s.framer.interval + (position - s.framer.reached) }
    let mutes : Bool := decide (∃ n : Chan, s.dir.muteMask.getLsbD n.val = true ∧ (s.chan n).seq.portMute = false)
    let latched : Bool := decide (s.dir.muteMask ≠ 0 ∨ s.dir.hold = true ∨ s.dir.dryMask ≠ 0)
    (s.framer.sync = .hunt → f.sync ≠ 0x6B3C → exec (.superframeEnd searched f) s = .next (settle s)) ∧
    (s.framer.sync = .hunt → f.sync = 0x6B3C → crc16 (coveredBytes f) ≠ f.check →
      exec (.superframeEnd searched f) s = .next (settle { s with framer := moved })) ∧
    (s.framer.sync = .hunt → good → exec (.superframeEnd searched f) s = .next (settle { s with
      framer := { moved with sync := .confirm, confirm := 1, lastGood := f.number } })) ∧
    (s.framer.sync = .confirm → good → s.framer.confirm + 1 < 3 →
      exec (.superframeEnd searched f) s = .next (settle { s with
        framer := { moved with confirm := s.framer.confirm + 1, lastGood := f.number } })) ∧
    (s.framer.sync = .confirm → good → 3 ≤ s.framer.confirm + 1 →
      exec (.superframeEnd searched f) s = .next (settle (State.pend { s with
        framer := { moved with confirm := s.framer.confirm + 1, lastGood := f.number, sync := .sync, miss := 0 } }
        .link))) ∧
    (s.framer.sync = .confirm → ¬good → exec (.superframeEnd searched f) s = .next (settle
      ((((State.pendIf { s with
        framer := { moved with sync := .hunt, confirm := 0, miss := 0, interval := 0 }
        dir := ⟨[], 0, none, 0, false, 0, s.dir.supplied⟩ } mutes .channel).pendIf latched .directive).pend .link))))

/-- R57, R58, R64, R65, R75: a position lost in SYNC or FLYWHEEL is counted and handed on as a loss; the uplink of the
superframe end follows. The third position without a sync word in FLYWHEEL leads to HUNT. Readings or choices of the model:
log 12. -/
def Obligations.SuperframeLost : Prop :=
  ∀ (s : State) (searched : Nat) (f : Superframe), Running s →
    s.framer.sync = .sync ∨ s.framer.sync = .flywheel →
    let position := s.framer.expected + 656
    let near := if s.framer.nearEnd < 255 then s.framer.nearEnd + 1 else s.framer.nearEnd
    let moved := { s.framer with reached := position, expected := position, nearEnd := near }
    let lost := { s.dir with history := [] }
    let mutes : Bool := decide (∃ n : Chan, s.dir.muteMask.getLsbD n.val = true ∧ (s.chan n).seq.portMute = false)
    let latched : Bool := decide (s.dir.muteMask ≠ 0 ∨ s.dir.hold = true ∨ s.dir.dryMask ≠ 0)
    (f.sync = 0x6B3C → crc16 (coveredBytes f) ≠ f.check →
      exec (.superframeEnd searched f) s = .next (settle (sendUplink { s with
        framer := { moved with farError := true }, dir := lost }))) ∧
    (f.sync ≠ 0x6B3C → s.framer.sync = .sync →
      exec (.superframeEnd searched f) s = .next (settle (sendUplink { s with
        framer := { moved with sync := .flywheel, miss := 1 }, dir := lost }))) ∧
    (f.sync ≠ 0x6B3C → s.framer.sync = .flywheel → s.framer.miss + 1 < 3 →
      exec (.superframeEnd searched f) s = .next (settle (sendUplink { s with
        framer := { moved with miss := s.framer.miss + 1 }, dir := lost }))) ∧
    (f.sync ≠ 0x6B3C → s.framer.sync = .flywheel → 3 ≤ s.framer.miss + 1 →
      exec (.superframeEnd searched f) s = .next (settle (sendUplink
        ((((State.pendIf { s with
          framer := { moved with sync := .hunt, confirm := 0, miss := 0, interval := 0 }
          dir := ⟨[], 0, none, 0, false, 0, s.dir.supplied⟩ } mutes .channel).pendIf latched .directive).pend .link)))))

/-- R57, R58, R60, R61, R64, R68: a good superframe in SYNC or FLYWHEEL: SYNC, the number and the far-end count, then the word
with its continuity mark, then slots 0 to 3 in order, then the uplink. Readings or choices of the model: log 12. -/
def Obligations.SuperframeProcessed : Prop :=
  ∀ (s : State) (searched : Nat) (f : Superframe), Running s →
    s.framer.sync = .sync ∨ s.framer.sync = .flywheel → f.sync = 0x6B3C → crc16 (coveredBytes f) = f.check →
    let position := s.framer.expected + 656
    let far := if f.flags.getLsbD 0 then (if s.framer.farEnd < 255 then s.framer.farEnd + 1 else s.framer.farEnd)
      else s.framer.farEnd
    let taken := { s with framer := { s.framer with
      reached := position, expected := position, lastGood := f.number, farEnd := far, sync := .sync
      miss := if s.framer.sync = .flywheel then 0 else s.framer.miss } }
    let after := wordItem f.word (decide (f.number = s.framer.lastGood + 1)) taken
    exec (.superframeEnd searched f) s = .next (settle (sendUplink
      (takeSlot f.slots[3] (takeSlot f.slots[2] (takeSlot f.slots[1] (takeSlot f.slots[0] after))))))

/-- R62, R93, R94, R97 to R100: what a slot does: EMPTY, an unknown kind or a stream outside 0..7 does nothing; a data segment
on a FREE context is counted as an orphan, below the expected index it is ignored, above it the batch ends with GAP, its entry
gone from its queue, its blocks at the free list's tail and its context FREE; the expected segment is written. R94, R99: so
ends the batch of an OPEN context of every stream, TRUNCATED or GAP. R95 to R97: what writing the expected segment of a context
does, on every stream: its symbols where R96 puts them and no other position, the symbols received, and with the last one the
entry READY and the context FREE. Readings or choices of the model: log 15. -/
def Obligations.SlotOutcomes : Prop :=
  (∀ (s : State) (k : Stream) (c : Context) (e : Entry) (o : LaunchOutcome), contextEntry c s = some e → e.source = k →
    endAssembly k c o s = redecide c.chan (retire c.chan e o 0 s)) ∧
  (∀ (s : State) (k : Stream) (c : Context) (e : Entry) (bytes : List Byte), PoolCanonical s →
    c.expected = (e.n + 63) / 64 → c.next < c.expected → bytes.length = 16 →
    let last : Prop := c.next + 1 = c.expected
    let count : Nat := if last then e.n - 64 * c.next else 64
    let base : Nat := 256 * e.chain.getD (c.next / 4) 0 + 64 * (c.next % 4)
    let e' := { e with received := c.received + count, state := if last then .ready else e.state }
    1 ≤ count ∧ count ≤ 64 ∧ ∃ cells,
      writeSegment k c e bytes s = { s with
        channels := s.channels.set c.chan { s.chan c.chan with
          queue := (s.chan c.chan).queue.map (fun y => if y = e then e' else y) }
        contexts := s.contexts.set k (if last then none else some { c with
          next := c.next + 1, received := c.received + count })
        pool := ⟨s.pool.free, cells⟩ } ∧
      (∀ j, j < count → cellsRead (base + j) cells = (bytes.getD (j / 4) 0).extractLsb' (6 - 2 * (j % 4)) 2) ∧
      (∀ a, a < base ∨ base + count ≤ a → cellsRead a cells = cellsRead a s.pool.cells)) ∧
  ∀ (s : State) (x : Slot),
    let kind := x[0].extractLsb' 4 4
    let stream := (x[0].extractLsb' 0 4).toNat
    ((kind ≠ 1 ∧ kind ≠ 2) ∨ 8 ≤ stream → takeSlot x s = s) ∧
    (∀ k : Stream, kind = 2 → stream = k.val → k.val < 8 →
      (s.context k = none → takeSlot x s =
        { s with counts := { s.counts with
          orphans := if s.counts.orphans < 65535 then s.counts.orphans + 1 else s.counts.orphans } }) ∧
      (∀ c, s.context k = some c → x[1].toNat < c.next → takeSlot x s = s) ∧
      (∀ c e, s.context k = some c → c.next < x[1].toNat → contextEntry c s = some e → e.source = k →
        takeSlot x s = redecide c.chan (retire c.chan e .gap 0 s)) ∧
      (∀ c e, s.context k = some c → x[1].toNat = c.next → contextEntry c s = some e →
        takeSlot x s = writeSegment k c e (x.toList.drop 2) s)) ∧
    (∀ k : Stream, kind = 1 → stream = k.val → k.val < 8 →
      let h : Header := ⟨x[1] ++ x[2], x[3], x[4], x[5], x[6], x[7] ++ x[8], x[9] ++ x[10] ++ x[11] ++ x[12],
        x[13] ++ x[14] ++ x[15] ++ x[16]⟩
      (s.context k = none → takeSlot x s = (admitHeader k h s).2) ∧
      (∀ c, s.context k = some c → takeSlot x s = (admitHeader k h (endAssembly k c .truncated s)).2))

/-- R65, R66, R68, R180, 11 section 11.7: the uplink superframe: its 13 bytes, whose last 11 leave the check register at 0; it
is sent on the bits that follow, and the far-error flag is then clear. R68: in HUNT and CONFIRM the interval's expiry sends an
uplink at the bit that completes 656 periods (log 12); in SYNC and FLYWHEEL it does not run. Readings or choices of the model:
log 14. -/
def Obligations.UplinkSuperframeSent : Prop :=
  (∀ s : State,
      let running : Prop := s.framer.sync = .sync ∨ s.framer.sync = .flywheel
      let echo : Byte := if running then s.framer.lastGood else 0
      let word : DirWord := if running then s.replyWord else
        (0 : BitVec 6) ++ BitVec.ofNat 10 s.params.siteAddress ++ (0 : BitVec 16)
      let status : Byte := BitVec.ofNat 8 ((if s.framer.farError then 1 else 0) + (if s.tb.valid then 2 else 0)
        + 4 * (match s.tb.state with
          | .free => 0
          | .acquire => 1
          | .locked => 2
          | .holdover => 3)
        + (if s.pool.free.length < 32 then 16 else 0) + (if s.dir.hold then 32 else 0))
      let condition (n : Chan) : Nat :=
        if (s.chan n).seq.state = .disabled then 2
        else if (s.chan n).seq.state ≠ .idle then 1
        else if (s.chan n).seq.fault then 3
        else if (s.chan n).seq.portMute || s.dir.muteMask.getLsbD n.val then 2
        else 0
      let summary : Byte := BitVec.ofNat 8 (condition 0 + 4 * condition 1 + 16 * condition 2 + 64 * condition 3)
      let covered : List Byte := [echo, BitVec.ofNat 8 (s.params.siteAddress / 256), BitVec.ofNat 8 s.params.siteAddress,
        status, summary, word.extractLsb' 24 8, word.extractLsb' 16 8, word.extractLsb' 8 8, word.extractLsb' 0 8]
      let check := crc16 covered
      let bytes : List Byte := [0xD2, 0x5A] ++ covered ++ [check.extractLsb' 8 8, check.extractLsb' 0 8]
      sendUplink s = { s with framer := { s.framer with uplink := some ⟨bytes, s.framer.reached⟩, farError := false } } ∧
      bytes.length = 13 ∧ crc16 (bytes.drop 2) = 0 ∧
      (∀ i : Nat, i < 104 → (sendUplink s).framer.lineBit (s.framer.reached + i)
        = (bytes.getD (i / 8) 0).getMsbD (i % 8)) ∧
      (∀ i : Nat, 104 ≤ i → (sendUplink s).framer.lineBit (s.framer.reached + i) = true)) ∧
  (∀ s : State, Running s →
      (s.framer.sync = .sync ∨ s.framer.sync = .flywheel → exec .uplinkIntervalExpiry s = .next (settle s)) ∧
      (s.framer.sync = .hunt ∨ s.framer.sync = .confirm →
        exec .uplinkIntervalExpiry s = .next (settle (sendUplink { s with framer := { s.framer with
          reached := s.framer.reached + (656 - s.framer.interval), interval := s.framer.interval - 656 } }))))

/-! ### Directives -/

/-- R75: the three-look history after a continuous word, a number slip and a loss. -/
def Obligations.ThreeLookHistory : Prop :=
  ∀ (s : State) (w : DirWord), s.dir.history.length ≤ 3 →
    (wordItem w true s).dir.history =
      (if s.dir.history.length = 3 then s.dir.history.tail ++ [w] else s.dir.history ++ [w]) ∧
    (wordItem w false s).dir.history = [w] ∧
    (lossItem s) = { s with dir := { s.dir with history := [] } } ∧
    (wordItem w true s).dir.history.length ≤ 3

/-- R74, R76 to R79: the five steps of a word item: the report of TRANSPARENT-CHANGE, the last good word, the history, the
verification, and the action on a verified word, which AUTO alone executes, and only when it is addressed here and defined.
-/
def Obligations.WordItemSteps : Prop :=
  ∀ (s : State) (w : DirWord) (continuous : Bool),
    let history := historyAfter s.dir.history w continuous
    let changed : Bool := decide (s.params.mode = .transparentChange ∧ s.dir.lastGood ≠ some w)
    let heard := State.pendIf { s with dir := { s.dir with lastGood := some w, history := history } } changed .directive
    let verified : Prop := history = [w, w, w] ∧ w ≠ s.dir.verified
    (¬verified → wordItem w continuous s = heard) ∧
    (verified → s.params.mode = .transparentChange →
      wordItem w continuous s = { heard with dir := { heard.dir with verified := w } }) ∧
    (verified → s.params.mode = .transparentVerified →
      wordItem w continuous s = State.pend { heard with dir := { heard.dir with verified := w } } .directive) ∧
    (verified → s.params.mode = .auto →
      let reported := State.pend { heard with dir := { heard.dir with verified := w } } .directive
      (addressedHere w s.params = false ∨ directiveOf w = none → wordItem w continuous s = reported) ∧
      (∀ d, addressedHere w s.params = true → directiveOf w = some d →
        wordItem w continuous s = executeDirective d reported))

/-- R72, R73, 11 section 11.6: which words are addressed to the site and which are defined, by their four bytes. R86, R88:
the reply word by mode: the supplied word in the transparent modes; in AUTO, CANNOT COMPLY, the echo with the site address,
or IDLE. -/
def Obligations.DirectiveWordsAndReply : Prop :=
  (∀ (high low code param : Byte) (p : Params),
      let w : DirWord := high ++ low ++ code ++ param
      let address := 256 * (high.toNat % 4) + low.toNat
      let mask : Prop := param.toNat < 16
      (addressedHere w p = true ↔
        (address ≤ 1015 ∧ address = p.siteAddress) ∨
        (1016 ≤ address ∧ address ≤ 1022 ∧ p.groupMask.getLsbD (address - 1016) = true) ∨ address = 1023) ∧
      (wordDefined w = true ↔ high.toNat < 4 ∧
        ((param = 0 ∧ (code = 0x00 ∨ code = 0x21 ∨ code = 0x22 ∨ code = 0xFF)) ∨
         (mask ∧ (code = 0x11 ∨ code = 0x12 ∨ code = 0x31 ∨ code = 0x32 ∨ code = 0x41)))) ∧
      (high.toNat < 4 → mask →
        let m : BitVec 4 := param.extractLsb' 0 4
        (code = 0x11 → directiveOf w = some (.mute m)) ∧ (code = 0x12 → directiveOf w = some (.unmute m)) ∧
        (code = 0x31 → directiveOf w = some (.dry m)) ∧ (code = 0x32 → directiveOf w = some (.live m)) ∧
        (code = 0x41 → directiveOf w = some (.flush m)) ∧
        (param = 0 → (code = 0x00 → directiveOf w = some .idle) ∧ (code = 0x21 → directiveOf w = some .holdAdmission) ∧
          (code = 0x22 → directiveOf w = some .resumeAdmission) ∧ (code = 0xFF → directiveOf w = some .returnToNormal)))) ∧
  (∀ s : State,
      let here (code param : Byte) : DirWord := (0 : BitVec 6) ++ BitVec.ofNat 10 s.params.siteAddress ++ code ++ param
      let v := s.dir.verified
      let refused : Prop := addressedHere v s.params = true ∧ directiveOf v = none ∧ s.dir.lastGood = some v
      (s.params.mode ≠ .auto → s.replyWord = s.dir.supplied) ∧
      (s.params.mode = .auto → refused → s.replyWord = here 0xE0 (v.extractLsb' 8 8)) ∧
      (s.params.mode = .auto → ¬refused →
        (∀ w, s.dir.lastGood = some w → addressedHere w s.params = true →
          s.replyWord = here (w.extractLsb' 8 8) (w.extractLsb' 0 8)) ∧
        (s.dir.lastGood = none → s.replyWord = here 0x00 0x00) ∧
        (∀ w, s.dir.lastGood = some w → addressedHere w s.params = false → s.replyWord = here 0x00 0x00)))

/-- R81 to R85: the effect of each executed directive; a changed muted condition makes the CHANNEL notice pending (R143). MUTE
then mutes each channel of its mask NOW, FLUSH flushes each, both from 0 to 3. R144: what a mute NOW does to a channel in each
state, whichever of the two mutes it and whatever mute-after is pending. Readings or choices of the model: logs 20 and 30. -/
def Obligations.DirectiveEffects : Prop :=
  (∀ (n : Chan) (s : State),
    let q := (s.chan n).seq
    (q.state = .idle ∨ q.state = .disabled → cutMuted n s = s) ∧
    (∀ (h : Entry) (rest : List Entry), (s.chan n).queue = h :: rest → h.state = .active →
      (q.state = .keying → BatchEnded s n h rest .muted 0 none (cutMuted n s)) ∧
      (q.state = .sending → BatchEnded s n h rest .abortedMute 0 none (cutMuted n s)) ∧
      (q.state = .tail → BatchEnded s n h rest (if q.dry then .launchedDry else .launched) 0 none (cutMuted n s)) ∧
      (q.state = .hold → BatchEnded s n h rest .muted 0 none (cutMuted n s)))) ∧
  ∀ (s : State) (m : BitVec 4),
    let changes (mask : BitVec 4) : Bool := decide (∃ n : Chan, (s.chan n).seq.portMute = false ∧
      s.dir.muteMask.getLsbD n.val ≠ mask.getLsbD n.val)
    let masked (mask : BitVec 4) : State := State.pendIf { s with dir := { s.dir with muteMask := mask } }
      (changes mask) .channel
    executeDirective .idle s = s ∧
    executeDirective .holdAdmission s = { s with dir := { s.dir with hold := true } } ∧
    executeDirective .resumeAdmission s = { s with dir := { s.dir with hold := false } } ∧
    executeDirective (.dry m) s = { s with dir := { s.dir with dryMask := s.dir.dryMask ||| m } } ∧
    executeDirective (.live m) s = { s with dir := { s.dir with dryMask := s.dir.dryMask &&& ~~~m } } ∧
    executeDirective (.unmute m) s = masked (s.dir.muteMask &&& ~~~m) ∧
    executeDirective .returnToNormal s = (let t := masked 0; { t with dir := { t.dir with hold := false, dryMask := 0 } }) ∧
    executeDirective (.mute m) s =
      (allChans.filter (fun n => m.getLsbD n.val)).foldl (fun t n => cutMuted n t) (masked (s.dir.muteMask ||| m)) ∧
    executeDirective (.flush m) s = (allChans.filter (fun n => m.getLsbD n.val)).foldl (fun t n => flushChan n t) s

/-! ### The control port -/

/-- R162 to R164, R176: what the receive assembler makes of one byte. R163, R164: the inter-byte timeout abandons the frame
when it is due, and only then (log 2). R165: a good frame does what the command of its kind, tag and body does, of an assigned
kind or an unassigned one (log 18, the model's choice of commands). -/
def Obligations.AssemblerTakesBytes : Prop :=
  (∀ (s : State) (b : Byte) (err : Bool), Running s →
      let abandoned := { s with
        port := { s.port with frame := none, timeout := none }
        counts := { s.counts with
          portErrors := if s.counts.portErrors < 65535 then s.counts.portErrors + 1 else s.counts.portErrors } }
      let stored (bytes : List Byte) := { s with
        port := { s.port with frame := some bytes, timeout := some (s.tb.time.later 100000) } }
      (s.port.resetPending ≠ none → exec (.controlByteArrival b err) s = .next (settle s)) ∧
      (s.port.resetPending = none → s.port.frame = none →
        (b = 0xA5 ∧ err = false → exec (.controlByteArrival b err) s = .next (settle (stored [b]))) ∧
        (b ≠ 0xA5 ∨ err = true → exec (.controlByteArrival b err) s = .next (settle s))) ∧
      (∀ before, s.port.resetPending = none → s.port.frame = some before → before ≠ [] →
        let bytes := before ++ [b]
        let len := 256 * (bytes.getD 1 0).toNat + (bytes.getD 2 0).toNat
        let check : BitVec 16 := bytes.getD (5 + len) 0 ++ bytes.getD (6 + len) 0
        let good : Prop := crc16 ((bytes.drop 1).take (4 + len)) = check
        (err = true → exec (.controlByteArrival b err) s = .next (settle abandoned)) ∧
        (err = false →
          (bytes.length < 3 → exec (.controlByteArrival b err) s = .next (settle (stored bytes))) ∧
          (bytes.length = 3 → len ≤ 1024 → exec (.controlByteArrival b err) s = .next (settle (stored bytes))) ∧
          (bytes.length = 3 → 1024 < len → exec (.controlByteArrival b err) s = .next (settle abandoned)) ∧
          (3 < bytes.length → bytes.length ≠ 7 + len →
            exec (.controlByteArrival b err) s = .next (settle (stored bytes))) ∧
          (bytes.length = 7 + len → len ≤ 1024 → ¬good → exec (.controlByteArrival b err) s = .next (settle abandoned)) ∧
          (bytes.length = 7 + len → len ≤ 1024 → good → exec (.controlByteArrival b err) s =
            exec (.unknownKind (bytes.getD 3 0) (bytes.getD 4 0) ((bytes.drop 5).take len))
              { s with port := { s.port with frame := none, timeout := none } })))) ∧
  (∀ s : State, Running s →
      (s.port.timeout = none → exec .interByteTimeout s = .next (settle s)) ∧
      (∀ x, s.port.timeout = some x → 0 < x.diff s.tb.time → exec .interByteTimeout s = .next (settle s)) ∧
      (∀ x, s.port.timeout = some x → x.diff s.tb.time ≤ 0 → exec .interByteTimeout s = .next (settle { s with
        port := { s.port with frame := none, timeout := none }
        counts := { s.counts with
          portErrors := if s.counts.portErrors < 65535 then s.counts.portErrors + 1 else s.counts.portErrors } })))

/-- R166, 11 section 11.3: the kind and body of every request are read back as that request. -/
def Obligations.RequestBodyReadsBack : Prop :=
  ∀ r : Request, parseRequest (requestKind r) (requestBody r) = .request r

/-- R162, R165, log 18: the bytes of a request's frame, arriving one after another at an assembler that is OUTSIDE, do
exactly what the command of that request does. -/
def Obligations.FrameBytesRunRequest : Prop :=
  ∀ (c : Instr) (tag : Byte) (r : Request) (s : State), requestOf c = some (tag, r) → c.wellFormed = true →
    Running s → s.port.resetPending = none → s.port.frame = none → s.port.timeout = none → NoticesSent s →
    arrive (Frame.bytes ⟨requestKind r, tag, requestBody r⟩) s = exec c s

/-- R165, R176: a good frame is not executed while four frames wait in the output queue, which is counted, nor while a reset
is pending, which is not. R166: the reply to a frame of an unassigned kind, and to one of a known kind whose body has a wrong
length: BAD_KIND with kind FFh, BAD_LENGTH with the kind plus 80h; nothing changes. Readings or choices of the model: log 18.
-/
def Obligations.FramesRefusedOrNotExecuted : Prop :=
  (∀ (c : Instr) (s : State), Running s → ((requestOf c).isSome = true ∨ ∃ kind tag body, c = .unknownKind kind tag body) →
      (s.port.resetPending ≠ none → exec c s = .next s) ∧
      (s.port.resetPending = none → 4 ≤ s.port.out.length → exec c s = .next { s with counts := { s.counts with
        overruns := if s.counts.overruns < 65535 then s.counts.overruns + 1 else s.counts.overruns } })) ∧
  (∀ (kind tag : Byte) (body : List Byte) (s : State), Accepts s →
      (kind.toNat ∉ [0x01, 0x02, 0x03, 0x08, 0x09, 0x0A, 0x0B, 0x0C, 0x0D, 0x10, 0x11, 0x18, 0x19, 0x1A, 0x1B, 0x1C, 0x20, 0x21,
          0x28, 0x29, 0x2A, 0x30, 0x31, 0x38, 0x3F] →
        exec (.unknownKind kind tag body) s = .next (s.enqueue ⟨0xFF, tag, [0x01]⟩)) ∧
      (∀ fixed, (kind.toNat, fixed) ∈ [(0x01, 0), (0x02, 0), (0x03, 15), (0x08, 1), (0x09, 20), (0x0A, 2), (0x0C, 0), (0x0D, 16),
          (0x10, 4), (0x11, 0), (0x18, 2), (0x19, 1), (0x1A, 1), (0x1B, 2), (0x1C, 1), (0x20, 16), (0x28, 3), (0x29, 0),
          (0x2A, 0), (0x30, 1), (0x31, 4), (0x38, 1)] → body.length ≠ fixed →
        exec (.unknownKind kind tag body) s = .next (s.enqueue ⟨kind + 0x80, tag, [0x02]⟩)) ∧
      (∀ least, (kind.toNat, least) ∈ [(0x0B, 2), (0x21, 4), (0x3F, 2)] → body.length < least →
        exec (.unknownKind kind tag body) s = .next (s.enqueue ⟨kind + 0x80, tag, [0x02]⟩)))

/-! ### Requests -/

/-- R20, R69, R89, R129, R151, R153, R157, R159, R167, R174, R179, R181, 11 sections 11.3, 11.4 and 11.8: the reports, records
and notice bodies, field by field in the order of those sections, and the outcome codes. R20, R33, R37, R129, R159, R167: the
requests that read: each answers with its report and changes nothing else. Readings or choices of the model: logs 23 and
31. -/
def Obligations.ReportsAndReadingRequests : Prop :=
  (let one (x : Nat) : List Byte := [BitVec.ofNat 8 x]
    let two (x : Nat) : List Byte := [BitVec.ofNat 8 (x / 256), BitVec.ofNat 8 x]
    let word (w : BitVec 32) : List Byte := [w.extractLsb' 24 8, w.extractLsb' 16 8, w.extractLsb' 8 8, w.extractLsb' 0 8]
    let tag2 (w : BitVec 16) : List Byte := [w.extractLsb' 8 8, w.extractLsb' 0 8]
    let flag (b : Bool) : List Byte := [if b then 0x01 else 0x00]
    let bit (i : Nat) (b : Bool) : Nat := if b then 2 ^ i else 0
    let time (x : SiteTime) : List Byte := word x.second ++ word (BitVec.ofNat 32 x.offset)
    let syncCode (x : SyncState) : Nat := match x with
      | .hunt => 0
      | .confirm => 1
      | .sync => 2
      | .flywheel => 3
    let modeCode (x : DirectiveMode) : Nat := match x with
      | .auto => 0
      | .transparentChange => 1
      | .transparentVerified => 2
    let rateCode (x : Rate) : Nat := match x with
      | .r1600 => 0
      | .r3200 => 1
    let seqCode (x : SeqState) : Nat := match x with
      | .disabled => 0
      | .idle => 1
      | .keying => 2
      | .sending => 3
      | .tail => 4
      | .hold => 5
    let keyed (x : SeqState) : Bool := decide (x ≠ .disabled ∧ x ≠ .idle)
    (∀ s : State, s.timebaseReport.length = 25 ∧ s.timebaseReport =
      one (match s.tb.state with
        | .free => 0
        | .acquire => 1
        | .locked => 2
        | .holdover => 3) ++ flag s.tb.valid ++ time s.tb.time ++ word (BitVec.ofInt 32 s.tb.lastError)
        ++ one s.tb.good ++ one s.tb.outlier ++ one s.tb.agree ++ two s.tb.elapsed ++ flag s.tb.stepPending
        ++ flag s.tb.pendingSet.isSome ++ word (s.tb.pendingSet.getD 0)) ∧
    (∀ p : Params, p.bytes.length = 15 ∧ p.bytes =
      two p.siteAddress ++ one p.groupMask.toNat ++ one (modeCode p.mode) ++ two p.window ++ one p.slew ++ two p.holdover
        ++ word (BitVec.ofNat 32 p.guardG) ++ one p.horizon
        ++ one (bit 0 p.enables.timebase + bit 1 p.enables.link + bit 2 p.enables.directive + bit 3 p.enables.channel
          + bit 4 p.enables.exception + bit 5 p.enables.map + bit 6 p.enables.power)) ∧
    (∀ c : Settings, c.bytes.length = 19 ∧ c.bytes =
      flag c.enabled ++ one (rateCode c.rate) ++ word (BitVec.ofNat 32 c.latency) ++ word (BitVec.ofNat 32 c.lead)
        ++ word (BitVec.ofNat 32 c.tail) ++ word (BitVec.ofNat 32 c.holdGap) ++ flag c.dry) ∧
    (∀ s : State, s.countsReport.length = 73 ∧ s.countsReport =
      two s.counts.admitted ++ s.counts.outcomes.toList.flatMap two ++ two s.counts.notCarried ++ two s.counts.orphans
        ++ two s.counts.corrected ++ two s.counts.portErrors ++ two s.counts.overruns
        ++ flag (decide (s.pool.free.length < 32)) ++ two s.pool.free.length) ∧
    (∀ s : State, s.linkReport.length = 7 ∧ s.linkReport =
      one (syncCode s.framer.sync) ++ one s.framer.confirm ++ one s.framer.miss ++ [s.framer.lastGood] ++ one s.framer.nearEnd
        ++ one s.framer.farEnd ++ flag s.framer.farError) ∧
    (∀ (s : State) (n : Chan), (s.queueReport n).length = 3 + 40 * (s.chan n).queue.length ∧ s.queueReport n =
      one n.val ++ one (seqCode (s.chan n).seq.state) ++ one (s.chan n).queue.length
        ++ (s.chan n).queue.flatMap (fun e => e.bytes (if e.state = .active then (s.chan n).seq.sent else 0))) ∧
    (∀ (e : Entry) (sent : Nat), (e.bytes sent).length = 40 ∧ e.bytes sent =
      tag2 e.tag ++ [e.zone] ++ one e.priority.val ++ one e.source.val ++ one (match e.state with
        | .assembling => 0
        | .ready => 1
        | .active => 2) ++ time e.t ++ time e.tk ++ time e.tend ++ two e.n ++ one (rateCode e.rate) ++ two e.received
        ++ one e.chain.length ++ two (e.chain.headD 0) ++ two sent) ∧
    (∀ r : LaunchRecord, r.bytes.length = 30 ∧ r.bytes =
      tag2 r.seqNo ++ tag2 r.body.tag ++ (match r.body.chan with
        | some n => one n.val
        | none => [0xFF]) ++ [r.body.zone] ++ one r.body.source.val ++ one r.body.outcome.code.val
        ++ one (bit 0 r.body.t.isSome + bit 1 r.body.received.isSome) ++ [0x00] ++ (match r.body.t with
        | some x => time x
        | none => [0, 0, 0, 0, 0, 0, 0, 0]) ++ two (r.body.received.getD 0) ++ two r.body.sent ++ time r.time) ∧
    ([LaunchOutcome.launched, .launchedDry, .abortedMute, .abortedFault, .abortedTimebase, .malformed, .zoneInvalid,
      .mapNotReady, .mapFault, .channelDisabled, .rateMismatch, .held, .duplicate, .late, .tooEarly, .poolEmpty, .queueFull,
      .overlap, .preempted, .truncated, .gap, .lateData, .muted, .fault, .timebase, .power, .flushed, .cancelled,
      .resetDropped].map (fun o => o.code.val) = List.range 29) ∧
    (∀ s : State,
      let judged (w : DirWord) : List Byte := one (bit 0 (addressedHere w s.params) + bit 1 (wordDefined w))
      let channel (n : Chan) : List Byte :=
        let q := (s.chan n).seq
        one (seqCode q.state)
          ++ one (bit 0 q.portMute + bit 1 q.muteAfter + bit 2 (s.dir.muteMask.getLsbD n.val) + bit 3 q.fault + bit 4 q.dry)
          ++ tag2 (if keyed q.state then (match (s.chan n).queue with
            | e :: _ => e.tag
            | [] => 0) else 0)
          ++ two (if keyed q.state then q.sent else 0)
      (s.noticeBody .timebase = s.timebaseReport) ∧
      ((s.noticeBody .link).length = 4 ∧ s.noticeBody .link =
        one (syncCode s.framer.sync) ++ [s.framer.lastGood] ++ one s.framer.nearEnd ++ one s.framer.farEnd) ∧
      ((s.noticeBody .directive).length = 19 ∧ s.noticeBody .directive =
        one (modeCode s.params.mode) ++ (match s.dir.lastGood with
          | some w => [0x01] ++ word w ++ judged w
          | none => [0x00, 0, 0, 0, 0, 0]) ++ word s.dir.verified ++ judged s.dir.verified ++ one s.dir.muteMask.toNat
          ++ flag s.dir.hold ++ one s.dir.dryMask.toNat ++ word s.replyWord) ∧
      ((s.noticeBody .channel).length = 24 ∧ s.noticeBody .channel = channel 0 ++ channel 1 ++ channel 2 ++ channel 3) ∧
      ((s.noticeBody .exception).length = 7 ∧ s.noticeBody .exception =
        (match s.ring.mark with
          | some m => [0x01] ++ tag2 m.first ++ one m.tally
          | none => [0x00, 0, 0, 0]) ++ tag2 s.ring.nextSeq ++ one s.ring.records.length) ∧
      ((s.noticeBody .map).length = 6 ∧ s.noticeBody .map =
        flag s.zones.ready ++ one s.zones.tally ++ (match s.zones.lastIndex with
          | some i => [0x01, i]
          | none => [0x00, 0]) ++ two s.counts.corrected) ∧
      ((s.noticeBody .power).length = 5 ∧ s.noticeBody .power =
        flag s.pins.pwrwarn ++ one (seqCode (s.chan 0).seq.state) ++ one (seqCode (s.chan 1).seq.state)
          ++ one (seqCode (s.chan 2).seq.state) ++ one (seqCode (s.chan 3).seq.state)))) ∧
  (∀ (tag : Byte) (s : State), Accepts s →
      exec (.identify tag) s = .next (s.enqueue ⟨0x81, tag,
        [0x00, 0x5C, 0x04, 0x02, 4, 16, 0x01, 0x00, 16, 0x01, 0x80, 0x01, 0x00, 9, 64, 4, 0x04, 0x00, 8]⟩) ∧
      exec (.getParameters tag) s = .next (s.enqueue ⟨0x82, tag, 0x00 :: s.params.bytes⟩) ∧
      (∀ n : Chan, exec (.getChannel tag (BitVec.ofNat 8 n.val)) s =
        .next (s.enqueue ⟨0x88, tag, 0x00 :: (s.chan n).settings.bytes⟩)) ∧
      (∀ b : Byte, 4 ≤ b.toNat → exec (.getChannel tag b) s = .next (s.enqueue ⟨0x88, tag, [0x03, 1]⟩)) ∧
      exec (.readChannelMap tag) s = .next (s.enqueue ⟨0x8C, tag, 0x00 :: s.channelMap.toList.map (fun o => match o with
        | some n => BitVec.ofNat 8 n.val
        | none => 0xFF)⟩) ∧
      exec (.readTime tag) s = .next (s.enqueue ⟨0x91, tag, 0x00 :: s.timebaseReport⟩) ∧
      (∀ n : Chan, exec (.queryQueue tag (BitVec.ofNat 8 n.val)) s =
        .next (s.enqueue ⟨0x9C, tag, 0x00 :: s.queueReport n⟩)) ∧
      (∀ b : Byte, 4 ≤ b.toNat → exec (.queryQueue tag b) s = .next (s.enqueue ⟨0x9C, tag, [0x03, 1]⟩)) ∧
      exec (.readCounts tag) s = .next (s.enqueue ⟨0xA9, tag, 0x00 :: s.countsReport⟩))

/-- R155, R156: FETCH RECORDS returns the records from the start number on, or from the oldest held where the start has been
overwritten, up to the maximum; it changes nothing else. -/
def Obligations.FetchRecordsReturns : Prop :=
  ∀ (tag : Byte) (start : BitVec 16) (maximum : Byte) (s : State), Accepts s → RingNumbered s →
    let d : Int := (start - s.ring.nextSeq).toInt
    let h : Int := s.ring.records.length
    let reply (rs : List LaunchRecord) : State := s.enqueue ⟨0xA8, tag,
      [0x00, BitVec.ofNat 8 s.ring.records.length, s.ring.nextSeq.extractLsb' 8 8, s.ring.nextSeq.extractLsb' 0 8,
        BitVec.ofNat 8 rs.length] ++ rs.flatMap (fun r => r.bytes)⟩
    (maximum.toNat = 0 ∨ 8 < maximum.toNat →
      exec (.fetchRecords tag start maximum) s = .next (s.enqueue ⟨0xA8, tag, [0x03, 2]⟩)) ∧
    (1 ≤ maximum.toNat → maximum.toNat ≤ 8 →
      (0 ≤ d → exec (.fetchRecords tag start maximum) s = .next (reply [])) ∧
      (-h ≤ d → d < 0 → exec (.fetchRecords tag start maximum) s = .next
        (reply ((s.ring.records.dropWhile (fun r => r.seqNo ≠ start)).take maximum.toNat))) ∧
      (d < -h → exec (.fetchRecords tag start maximum) s = .next (reply (s.ring.records.take maximum.toNat))))

/-- R167, R80, R175: SET PARAMETERS replaces the record whole; a new mode or site address empties the three-look history,
and a kind turned off leaves the pending set. The first field out of range is named, and then nothing changes. -/
def Obligations.SetParametersReplaces : Prop :=
  ∀ (tag : Byte) (p : ParamFields) (s : State), Accepts s →
    let ranges : List Bool := [p.siteAddress.toNat ≤ 1015, p.groupMask.toNat < 128, p.mode.toNat < 3,
      2 ≤ p.window.toNat ∧ p.window.toNat ≤ 500, 1 ≤ p.slew.toNat ∧ p.slew.toNat ≤ 16,
      10 ≤ p.holdover.toNat ∧ p.holdover.toNat ≤ 3600, 10000 ≤ p.guardG.toNat ∧ p.guardG.toNat ≤ 1000000,
      1 ≤ p.horizon.toNat ∧ p.horizon.toNat ≤ 120, p.enables.toNat < 128]
    let mode : DirectiveMode := if p.mode = 0 then .auto else if p.mode = 1 then .transparentChange else .transparentVerified
    let on (i : Nat) : Bool := p.enables.getLsbD i
    let old := s.port.notices
    (∀ i, ranges.findIdx? (fun b => !b) = some i →
      exec (.setParameters tag p) s = .next (s.enqueue ⟨0x83, tag, [0x03, BitVec.ofNat 8 (i + 1)]⟩)) ∧
    (ranges.findIdx? (fun b => !b) = none →
      exec (.setParameters tag p) s = .next (State.enqueue { s with
        params := ⟨p.siteAddress.toNat, p.groupMask.extractLsb' 0 7, mode, p.window.toNat, p.slew.toNat, p.holdover.toNat,
          p.guardG.toNat, p.horizon.toNat, ⟨on 0, on 1, on 2, on 3, on 4, on 5, on 6⟩⟩
        dir := { s.dir with history :=
          if mode ≠ s.params.mode ∨ p.siteAddress.toNat ≠ s.params.siteAddress then [] else s.dir.history }
        port := { s.port with notices := ⟨old.timebase && on 0, old.link && on 1, old.directive && on 2,
          old.channel && on 3, old.exception && on 4, old.map && on 5, old.power && on 6⟩ } } ⟨0x83, tag, [0x00]⟩))

/-- R35, R36, R140: SET CHANNEL: its checks in order, the whole record replaced, and the passage between DISABLED and IDLE,
where a pending mute-after becomes the mute. -/
def Obligations.SetChannelReplaces : Prop :=
  ∀ (tag : Byte) (f : SettingsFields) (s : State), Accepts s →
    let ranges : List Bool := [f.enabled = 0 ∨ f.enabled = 1, f.rate.toNat < 2, f.latency.toNat ≤ 200000, f.lead.toNat ≤ 200000,
      f.tail.toNat ≤ 100000, f.holdGap.toNat ≤ 200000, f.dry = 0 ∨ f.dry = 1]
    let settings : Settings := ⟨f.enabled = 1, if f.rate = 0 then .r1600 else .r3200, f.latency.toNat, f.lead.toNat,
      f.tail.toNat, f.holdGap.toNat, f.dry = 1⟩
    (∀ b : Byte, 4 ≤ b.toNat → exec (.setChannel tag b f) s = .next (s.enqueue ⟨0x89, tag, [0x03, 1]⟩)) ∧
    (∀ n : Chan, let b : Byte := BitVec.ofNat 8 n.val
      let c := s.chan n
      let free : Prop := (c.seq.state = .idle ∨ c.seq.state = .disabled) ∧ c.queue = []
      (∀ i, ranges.findIdx? (fun ok => !ok) = some i →
        exec (.setChannel tag b f) s = .next (s.enqueue ⟨0x89, tag, [0x03, BitVec.ofNat 8 (i + 2)]⟩)) ∧
      (ranges.findIdx? (fun ok => !ok) = none → ¬free →
        exec (.setChannel tag b f) s = .next (s.enqueue ⟨0x89, tag, [0x04]⟩)) ∧
      (ranges.findIdx? (fun ok => !ok) = none → free →
        (c.seq.state = .disabled → f.enabled = 1 → exec (.setChannel tag b f) s = .next (State.enqueue
          (State.pendIf (s.setChan n { c with
            settings := settings
            seq := { c.seq with
              state := .idle, dry := false, sent := 0, muteAfter := false, portMute := c.seq.portMute || c.seq.muteAfter } })
            (c.seq.muteAfter && !c.seq.portMute && !s.dir.muteMask.getLsbD n.val) .channel)
          ⟨0x89, tag, [0x00]⟩)) ∧
        (c.seq.state = .idle → f.enabled = 0 → exec (.setChannel tag b f) s = .next (State.enqueue
          (s.setChan n { c with settings := settings, seq := { c.seq with state := .disabled } }) ⟨0x89, tag, [0x00]⟩)) ∧
        ((c.seq.state = .disabled ∧ f.enabled = 0) ∨ (c.seq.state = .idle ∧ f.enabled = 1) →
          exec (.setChannel tag b f) s = .next (State.enqueue
            (s.setChan n { c with settings := settings }) ⟨0x89, tag, [0x00]⟩))))

/-- R24 to R27, R168: READ ZONES: its checks in order, and each entry read under the storage check, in ascending order: the
values sent, and what the storage check's own work leaves: the entries corrected or invalidated, the corrected count, the
tally, the last index, and the MAP notice; nothing else changes. Readings or choices of the model: log 11. -/
def Obligations.ReadZonesReads : Prop :=
  ∀ (tag first count : Byte) (s : State), Accepts s →
    let run := exec (.readZones tag first count) s
    let refuse (body : List Byte) : Host.Outcome State Fault Refusal := .next (s.enqueue ⟨0x8A, tag, body⟩)
    (count.toNat = 0 ∨ 64 < count.toNat → run = refuse [0x03, 2]) ∧
    (1 ≤ count.toNat → count.toNat ≤ 64 →
      (s.zones.ready = false → run = refuse [0x05]) ∧
      (s.zones.ready = true → 256 < first.toNat + count.toNat → run = refuse [0x03, 2]) ∧
      (s.zones.ready = true → first.toNat + count.toNat ≤ 256 →
        let named : List Byte := (List.range count.toNat).map (fun j => BitVec.ofNat 8 (first.toNat + j))
        let sent (i : Byte) : List Byte := match (s.zone i).test with
          | some (v, _) => (if v.valid then 0x01 else 0x00) :: byte4 (BitVec.ofInt 32 v.d)
          | none => [0, 0, 0, 0, 0]
        let body := named.flatMap sent
        let mended := named.filter (fun i => match (s.zone i).test with
          | some (_, corrected) => corrected
          | none => false)
        let lost := named.filter (fun i => (s.zone i).test.isNone)
        let t := named.foldl (fun u i => (readZone i u).2) s
        run = .next (State.enqueue t ⟨0x8A, tag, 0x00 :: body⟩) ∧ body.length = 5 * count.toNat ∧
        t.zones.ready = s.zones.ready ∧ t.zones.clearing = s.zones.clearing ∧
        (s.zones.tally ≤ 255 → t.zones.tally = min 255 (s.zones.tally + lost.length)) ∧
        t.zones.lastIndex = (match lost.getLast? with
          | some i => some i
          | none => s.zones.lastIndex) ∧
        t.tb = s.tb ∧ t.params = s.params ∧ t.channelMap = s.channelMap ∧ t.channels = s.channels ∧ t.framer = s.framer ∧
        t.dir = s.dir ∧ t.contexts = s.contexts ∧ t.pool = s.pool ∧ t.ring = s.ring ∧ t.pins = s.pins ∧
        (s.counts.corrected ≤ 65535 → t.counts = { s.counts with
          corrected := min 65535 (s.counts.corrected + mended.length) }) ∧
        t.port = { s.port with notices := { s.port.notices with
          map := s.port.notices.map || (decide (lost ≠ []) && s.params.enables.map) } } ∧
        (∀ i : Byte, first.toNat ≤ i.toNat → i.toNat < first.toNat + count.toNat →
          let at' := (body.drop (5 * (i.toNat - first.toNat))).take 5
          match (s.zone i).test with
          | some (v, corrected) =>
            at' = (if v.valid then 0x01 else 0x00) :: byte4 (BitVec.ofInt 32 v.d) ∧
            t.zone i = if corrected then ⟨v, []⟩ else s.zone i
          | none => at' = [0, 0, 0, 0, 0] ∧ t.zone i = ⟨⟨false, 0⟩, []⟩) ∧
        (∀ i : Byte, i.toNat < first.toNat ∨ first.toNat + count.toNat ≤ i.toNat → t.zone i = s.zone i)))

/-- R24, R28, R168: WRITE ZONES: its checks in order; an accepted one writes every named entry with a fresh check code.
Readings or choices of the model: log 10. -/
def Obligations.WriteZonesWrites : Prop :=
  ∀ (tag first count : Byte) (entries : List Byte) (s : State), Accepts s →
    let run := exec (.writeZones tag first count entries) s
    let refuse (body : List Byte) : Host.Outcome State Fault Refusal := .next (s.enqueue ⟨0x8B, tag, body⟩)
    let at' (j : Nat) : Byte := entries.getD j 0
    let d (j : Nat) : Int := (at' (5 * j + 1) ++ at' (5 * j + 2) ++ at' (5 * j + 3) ++ at' (5 * j + 4) : BitVec 32).toInt
    let sound (j : Nat) : Prop := (at' (5 * j) = 0 ∨ at' (5 * j) = 1) ∧ -50000 ≤ d j ∧ d j ≤ 50000
    (count.toNat = 0 ∨ 64 < count.toNat → run = refuse [0x03, 2]) ∧
    (1 ≤ count.toNat → count.toNat ≤ 64 →
      (entries.length ≠ 5 * count.toNat → run = refuse [0x02]) ∧
      (entries.length = 5 * count.toNat →
        (s.zones.ready = false → run = refuse [0x05]) ∧
        (s.zones.ready = true → 256 < first.toNat + count.toNat → run = refuse [0x03, 2]) ∧
        (s.zones.ready = true → first.toNat + count.toNat ≤ 256 →
          (∀ j, j < count.toNat → (∀ i, i < j → sound i) → ¬sound j →
            run = refuse [0x03, BitVec.ofNat 8 (2 * (j + 1) + (if at' (5 * j) = 0 ∨ at' (5 * j) = 1 then 2 else 1))]) ∧
          ((∀ j, j < count.toNat → sound j) → ∃ zones,
            run = .next (State.enqueue { s with zones := { s.zones with entries := zones } } ⟨0x8B, tag, [0x00]⟩) ∧
            ∀ i : Fin 256, zones[i] =
              if first.toNat ≤ i.val ∧ i.val < first.toNat + count.toNat then
                ⟨⟨at' (5 * (i.val - first.toNat)) = 1, d (i.val - first.toNat)⟩, []⟩
              else s.zones.entries[i]))))

/-- R17, R33: WRITE CHANNEL MAP replaces all 16 entries or names the first offending one; SET TIME leaves its value pending
unless time is valid in LOCKED or HOLDOVER. R69, R88, R159, R176: CLEAR COUNTS, READ LINK STATUS, SET REPLY WORD and RESET:
replies and effects. A RESET with another option, which has no command of its own (log 18), is refused by its frame's bytes. -/
def Obligations.MapTimeAndStatusRequests : Prop :=
  (∀ (tag : Byte) (s : State), Accepts s →
      (∀ (entries : Vector Byte 16),
        let bad := entries.toList.findIdx? (fun b => decide (3 < b.toNat ∧ b ≠ 0xFF))
        (∀ i, bad = some i →
          exec (.writeChannelMap tag entries) s = .next (s.enqueue ⟨0x8D, tag, [0x03, BitVec.ofNat 8 (i + 1)]⟩)) ∧
        (bad = none → ∃ m, exec (.writeChannelMap tag entries) s =
            .next (State.enqueue { s with channelMap := m } ⟨0x8D, tag, [0x00]⟩) ∧
          ∀ i : Fin 16, (entries[i] = 0xFF → m[i] = none) ∧
            (∀ n : Chan, entries[i] = BitVec.ofNat 8 n.val → m[i] = some n))) ∧
      (∀ second : BitVec 32,
        (s.tb.valid = true → s.tb.state = .locked ∨ s.tb.state = .holdover →
          exec (.setTime tag second) s = .next (s.enqueue ⟨0x90, tag, [0x04]⟩)) ∧
        (s.tb.valid = false ∨ s.tb.state = .free ∨ s.tb.state = .acquire →
          exec (.setTime tag second) s = .next (State.enqueue { s with tb := { s.tb with pendingSet := some second } }
            ⟨0x90, tag, [0x00]⟩)))) ∧
  (∀ (tag : Byte) (s : State), Accepts s →
      exec (.clearCounts tag) s = .next (State.enqueue { s with counts := ⟨0, Vector.replicate 29 0, 0, 0, 0, 0, 0⟩ }
        ⟨0xAA, tag, 0x00 :: s.countsReport⟩) ∧
      exec (.readLinkStatus tag 0) s = .next (s.enqueue ⟨0xB0, tag, 0x00 :: s.linkReport⟩) ∧
      exec (.readLinkStatus tag 1) s = .next (State.enqueue { s with framer := { s.framer with nearEnd := 0, farEnd := 0 } }
        ⟨0xB0, tag, 0x00 :: s.linkReport⟩) ∧
      (∀ b : Byte, 1 < b.toNat → exec (.readLinkStatus tag b) s = .next (s.enqueue ⟨0xB0, tag, [0x03, 1]⟩)) ∧
      (∀ w : DirWord, w.toNat < 2 ^ 26 → exec (.setReplyWord tag w) s =
        .next (State.enqueue { s with dir := { s.dir with supplied := w } } ⟨0xB1, tag, [0x00]⟩)) ∧
      (∀ w : DirWord, 2 ^ 26 ≤ w.toNat → exec (.setReplyWord tag w) s = .next (s.enqueue ⟨0xB1, tag, [0x03, 1]⟩)) ∧
      exec (.resetFull tag) s = .next (State.enqueue { s with
        port := { s.port with frame := none, timeout := none, resetPending := some .full } } ⟨0xB8, tag, [0x00]⟩) ∧
      exec (.resetControl tag) s = .next (State.enqueue { s with
        port := { s.port with frame := none, timeout := none, resetPending := some .control } } ⟨0xB8, tag, [0x00]⟩) ∧
      (∀ option : Byte, 1 < option.toNat →
        exec (.unknownKind 0x38 tag [option]) s = .next (s.enqueue ⟨0xB8, tag, [0x03, 1]⟩)))

/-! ### Mutes, flush, cancel, removals -/

/-- R106, R114, R153, R154, R157, R158: what the removal of an entry does: its record with the next number, its count, the
exception mark and notice, its blocks at the free list's tail in chain order, and its context FREE where it was ASSEMBLING.
R153, R154, R157, R158: the writing of any one record, of a removal or of a header discarded. Readings or choices of the model:
log 25. -/
def Obligations.RemovalOfAnEntry : Prop :=
  (∀ (s : State) (b : RecordBody),
    let reported : Bool := decide (b.outcome ≠ .launched ∧ b.outcome ≠ .launchedDry) && s.params.enables.exception
    let mark : Mark := match s.ring.mark with
      | none => ⟨s.ring.nextSeq, 1⟩
      | some m => ⟨m.first, if m.tally < 255 then m.tally + 1 else m.tally⟩
    let count := s.counts.outcomes[b.outcome.code]
    s.writeRecord b = { s with
      ring := ⟨(if s.ring.records.length < 64 then s.ring.records else s.ring.records.tail) ++
        [⟨s.ring.nextSeq, b, s.tb.time⟩], s.ring.nextSeq + 1, if reported then some mark else s.ring.mark⟩
      counts := { s.counts with
        outcomes := s.counts.outcomes.set b.outcome.code (if count < 65535 then count + 1 else count) }
      port := { s.port with notices := { s.port.notices with exception := s.port.notices.exception || reported } } }) ∧
  ∀ (s : State) (n : Chan) (e : Entry) (o : LaunchOutcome) (sent : Nat),
    let reported : Bool := decide (o ≠ .launched ∧ o ≠ .launchedDry) && s.params.enables.exception
    let record : LaunchRecord := ⟨s.ring.nextSeq, ⟨e.tag, some n, e.zone, e.source, o, some e.t, some e.received, sent⟩,
      s.tb.time⟩
    let mark : Mark := match s.ring.mark with
      | none => ⟨s.ring.nextSeq, 1⟩
      | some m => ⟨m.first, if m.tally < 255 then m.tally + 1 else m.tally⟩
    let count := s.counts.outcomes[o.code]
    retire n e o sent s = { s with
      channels := s.channels.set n { s.chan n with queue := (s.chan n).queue.erase e }
      ring := ⟨(if s.ring.records.length < 64 then s.ring.records else s.ring.records.tail) ++ [record],
        s.ring.nextSeq + 1, if reported then some mark else s.ring.mark⟩
      counts := { s.counts with outcomes := s.counts.outcomes.set o.code (if count < 65535 then count + 1 else count) }
      port := { s.port with notices := { s.port.notices with exception := s.port.notices.exception || reported } }
      pool := ⟨s.pool.free ++ e.chain, s.pool.cells⟩
      contexts := if e.state = .assembling then s.contexts.set e.source none else s.contexts }

/-- R143 to R145: MUTE NOW: a mask above bit 3 is refused; the channels of the mask are taken in ascending order; each sets
its mute and drops a pending one, and a keyed channel is cut with the outcome of the table. R145: MUTE AFTER and UNMUTE: the
refusals, the order of channels, and what each does to a channel in each state. A MUTE with another mode, which has no command
of its own (log 18), is refused by its frame's bytes. Readings or choices of the model: logs 20 and 30. -/
def Obligations.MutesOfTheControlPort : Prop :=
  ((∀ (tag mask : Byte) (s : State), Accepts s →
      (16 ≤ mask.toNat → exec (.muteNow tag mask) s = .next (s.enqueue ⟨0x98, tag, [0x03, 1]⟩)) ∧
      (mask.toNat < 16 → exec (.muteNow tag mask) s = .next (State.enqueue
        ((allChans.filter (fun n => mask.getLsbD n.val)).foldl (fun t n => muteNowChan n t) s) ⟨0x98, tag, [0x00]⟩)) ∧
      (∀ mode : Byte, mask.toNat < 16 → 1 < mode.toNat →
        exec (.unknownKind 0x18 tag [mask, mode]) s = .next (s.enqueue ⟨0x98, tag, [0x03, 2]⟩)) ∧
      (∀ mode : Byte, 16 ≤ mask.toNat →
        exec (.unknownKind 0x18 tag [mask, mode]) s = .next (s.enqueue ⟨0x98, tag, [0x03, 1]⟩))) ∧
    (∀ (n : Chan) (s : State),
      let q := (s.chan n).seq
      let muted := State.pendIf (s.setSeq n { q with portMute := true, muteAfter := false })
        (!q.portMute && !s.dir.muteMask.getLsbD n.val) .channel
      (q.state = .idle ∨ q.state = .disabled → muteNowChan n s = muted) ∧
      (∀ (h : Entry) (rest : List Entry), (s.chan n).queue = h :: rest → h.state = .active →
        (q.state = .keying → BatchEnded muted n h rest .muted 0 none (muteNowChan n s)) ∧
        (q.state = .sending → BatchEnded muted n h rest .abortedMute 0 none (muteNowChan n s)) ∧
        (q.state = .tail → BatchEnded muted n h rest (if q.dry then .launchedDry else .launched) 0 none (muteNowChan n s)) ∧
        (q.state = .hold → BatchEnded muted n h rest .muted 0 none (muteNowChan n s))))) ∧
  ((∀ (tag mask : Byte) (s : State), Accepts s →
      (16 ≤ mask.toNat → exec (.muteAfter tag mask) s = .next (s.enqueue ⟨0x98, tag, [0x03, 1]⟩) ∧
        exec (.unmute tag mask) s = .next (s.enqueue ⟨0x99, tag, [0x03, 1]⟩)) ∧
      (mask.toNat < 16 →
        exec (.muteAfter tag mask) s = .next (State.enqueue
          ((allChans.filter (fun n => mask.getLsbD n.val)).foldl (fun t n => muteAfterChan n t) s) ⟨0x98, tag, [0x00]⟩) ∧
        exec (.unmute tag mask) s = .next (State.enqueue
          ((allChans.filter (fun n => mask.getLsbD n.val)).foldl (fun t n => unmuteChan n t) s) ⟨0x99, tag, [0x00]⟩))) ∧
    (∀ (n : Chan) (s : State),
      let q := (s.chan n).seq
      let byHub := s.dir.muteMask.getLsbD n.val
      unmuteChan n s = State.pendIf (s.setSeq n { q with portMute := false, muteAfter := false }) (q.portMute && !byHub)
        .channel ∧
      (q.portMute = true → muteAfterChan n s = s) ∧
      (q.portMute = false →
        (q.state = .idle → muteAfterChan n s = State.pendIf (s.setSeq n { q with portMute := true }) (!byHub) .channel) ∧
        (q.state = .keying ∨ q.state = .sending ∨ q.state = .tail ∨ q.state = .disabled →
          muteAfterChan n s = s.setSeq n { q with muteAfter := true }) ∧
        (∀ (h : Entry) (rest : List Entry), q.state = .hold → (s.chan n).queue = h :: rest → h.state = .active →
          BatchEnded (s.setSeq n { q with muteAfter := true }) n h rest (if q.dry then .launchedDry else .launched)
            q.lines q.strobe (muteAfterChan n s)))))

/-- R128: FLUSH: a mask above bit 3 is refused; else the channels of the mask are flushed, 0 to 3, and the reply counts the
entries removed. In each queue every entry that is not ACTIVE is removed, in queue order; a holding channel then decides again
(R141). Readings or choices of the model: log 15. -/
def Obligations.FlushRemovesQueued : Prop :=
  (∀ (tag mask : Byte) (s : State), Accepts s →
    (16 ≤ mask.toNat → exec (.flush tag mask) s = .next (s.enqueue ⟨0x9A, tag, [0x03, 1]⟩)) ∧
    (mask.toNat < 16 → exec (.flush tag mask) s = .next (State.enqueue
      ((allChans.filter (fun n => mask.getLsbD n.val)).foldl (fun t n => flushChan n t) s)
      ⟨0x9A, tag, 0x00 :: allChans.map (fun n => BitVec.ofNat 8 (if mask.getLsbD n.val then
        ((s.chan n).queue.filter (fun e => e.state ≠ .active)).length else 0))⟩))) ∧
  (∀ (n : Chan) (s : State),
    let gone := (s.chan n).queue.filter (fun e => e.state ≠ .active)
    let u := writeRecords (gone.map (fun e => ⟨e.tag, some n, e.zone, e.source, .flushed, some e.t, some e.received, 0⟩)) s
    ∃ t, flushChan n s = redecide n t ∧
      t.chan n = { s.chan n with queue := (s.chan n).queue.filter (fun e => e.state = .active) } ∧
      (∀ m, m ≠ n → t.chan m = s.chan m) ∧
      t.pool = ⟨s.pool.free ++ gone.flatMap (fun e => e.chain), s.pool.cells⟩ ∧
      t.ring.records = ((gone.map (fun e => (⟨e.tag, some n, e.zone, e.source, .flushed, some e.t, some e.received,
        0⟩ : RecordBody))).foldl (fun r b => r.append b s.tb.time) s.ring).records ∧
      t.counts = gone.foldl (fun c _ => c.countOutcome .flushed) s.counts ∧
      (∀ k : Stream, t.context k = if ∃ e ∈ gone, e.state = .assembling ∧ e.source = k then none else s.context k) ∧
      t.tb = s.tb ∧ t.params = s.params ∧ t.zones = s.zones ∧ t.channelMap = s.channelMap ∧ t.framer = s.framer ∧
      t.dir = s.dir ∧ t.pins = s.pins ∧ t.port.out = s.port.out ∧ t.ring = u.ring ∧ t.counts = u.counts ∧ t.port = u.port ∧
      t.pending = s.pending)

/-- R127: CANCEL: NOT_FOUND where no entry holds the tag, STATE where it is ACTIVE; else the entry is removed with CANCELLED,
and the reply names the channel and the former state. A holding channel then decides again (R141). R139, R141: a holding
sequencer that decides again stays in HOLD while an entry within the hold gap stands behind the active batch, and releases it
as LAUNCHED or LAUNCHED_DRY otherwise; a sequencer in any other state does nothing. Readings or choices of the model: log 15.
-/
def Obligations.CancelAndHoldDecision : Prop :=
  (∀ (tag : Byte) (batch : BitVec 16) (s : State), Accepts s → TagsUnique s →
      ((∀ n : Chan, ∀ e ∈ (s.chan n).queue, e.tag ≠ batch) →
        exec (.cancel tag batch) s = .next (s.enqueue ⟨0x9B, tag, [0x06]⟩)) ∧
      (∀ n : Chan, ∀ e ∈ (s.chan n).queue, e.tag = batch →
        (e.state = .active → exec (.cancel tag batch) s = .next (s.enqueue ⟨0x9B, tag, [0x04]⟩)) ∧
        (e.state ≠ .active → exec (.cancel tag batch) s = .next (State.enqueue (redecide n (retire n e .cancelled 0 s))
          ⟨0x9B, tag, [0x00, BitVec.ofNat 8 n.val, if e.state = .assembling then 0 else 1]⟩)))) ∧
  (∀ (n : Chan) (s : State),
      let c := s.chan n
      (c.seq.state ≠ .hold → redecide n s = s) ∧
      (∀ (h b : Entry) (rest : List Entry), c.seq.state = .hold → c.queue = h :: b :: rest →
        b.tk.diff h.tend ≤ c.settings.holdGap → redecide n s = s) ∧
      (∀ (h : Entry) (rest : List Entry), c.seq.state = .hold → c.queue = h :: rest → h.state = .active →
        (∀ b ∈ rest.head?, (c.settings.holdGap : Int) < b.tk.diff h.tend) →
        BatchEnded s n h rest (if c.seq.dry then .launchedDry else .launched) c.seq.lines c.seq.strobe (redecide n s)))

/-! ### Admission and assembly -/

/-- R93, R115 to R118, R126, R171: an INJECT HEADER on a FREE context, discarded at steps 1 to 10: the first failing check
names the cause, in the record and in the reply; NOT_CARRIED writes no record. On an OPEN context the batch is truncated
first (R94). The checks of a header of any source stream are the same. -/
def Obligations.HeaderDiscardedEarly : Prop :=
  ∀ (tag : Byte) (h : Header) (s : State), Accepts s →
    let run := exec (.injectHeader tag h) s
    let discard (u : State) (o : LaunchOutcome) (code : Byte) (n : Option Chan) : Prop :=
      (s.context 8 = none → run =
        .next (State.enqueue (u.writeRecord ⟨h.tag, n, h.zone, 8, o, none, none, 0⟩) ⟨0xA0, tag, [0x07, code]⟩)) ∧
      (∀ src : Stream, admitHeader src h s = (.discarded o, u.writeRecord ⟨h.tag, n, h.zone, src, o, none, none, 0⟩))
    let notCarried (u : State) : Prop :=
      (s.context 8 = none → run = .next (State.enqueue u ⟨0xA0, tag, [0x07, 0x1D]⟩)) ∧
      (∀ src : Stream, admitHeader src h s = (.notCarried, u))
    let sound : Prop := h.o.toNat < 10000000 ∧ 1 ≤ h.n.toNat ∧ h.n.toNat ≤ 8192 ∧ h.rate.toNat ≤ 1 ∧ h.priority.toNat ≤ 3 ∧
      h.logical.toNat ≤ 15
    let read := (readZone h.zone s).2
    (∀ c, s.context 8 = some c → run = exec (.injectHeader tag h) (endAssembly 8 c .truncated s)) ∧
    ((s.pins.pwrwarn = true → discard s .power 0x19 none) ∧
      (s.pins.pwrwarn = false → ¬sound → discard s .malformed 0x05 none) ∧
      (s.pins.pwrwarn = false → sound → s.dir.hold = true → discard s .held 0x0B none) ∧
      (s.pins.pwrwarn = false → sound → s.dir.hold = false →
        (s.tb.valid = false → discard s .timebase 0x18 none) ∧
        (s.tb.valid = true → s.zones.ready = false → discard s .mapNotReady 0x07 none) ∧
        (s.tb.valid = true → s.zones.ready = true →
          ((s.zone h.zone).test = none → discard read .mapFault 0x08 none) ∧
          (∀ v corrected, (s.zone h.zone).test = some (v, corrected) →
            (v.valid = false → discard read .zoneInvalid 0x06 none) ∧
            (v.valid = true → h.logical.toNat ≤ 15 → ∀ l : Fin 16, l.val = h.logical.toNat →
              (s.channelMap[l] = none → notCarried { read with counts := { read.counts with
                  notCarried := if s.counts.notCarried < 65535 then s.counts.notCarried + 1 else s.counts.notCarried } }) ∧
              (∀ n, s.channelMap[l] = some n →
                let c := (s.chan n).settings
                let rate : Rate := if h.rate = 0 then .r1600 else .r3200
                let held : Prop := ∃ m : Chan, ∃ e ∈ (s.chan m).queue, e.tag = h.tag
                (c.enabled = false → discard read .channelDisabled 0x09 (some n)) ∧
                (c.enabled = true → rate ≠ c.rate → discard read .rateMismatch 0x0A (some n)) ∧
                (c.enabled = true → rate = c.rate → held → discard read .duplicate 0x0C (some n))))))))

/-- R25, R26: a read of a zone entry: an entry that agrees is left; a corrected one is written back and counted; an
uncorrectable one is rewritten invalid with D = 0, tallied, named last, and makes the MAP notice pending. One differing
stored bit is corrected to what was written and two are never corrected; a disturbed bit that changes again no longer
differs (log 10). -/
def Obligations.StorageCheckOfZones : Prop :=
  (∀ (i : Byte) (s : State),
    (∀ v, (s.zone i).test = some (v, false) → readZone i s = (some v, s)) ∧
    (∀ v, (s.zone i).test = some (v, true) → readZone i s = (some v, { s.setZone i ⟨v, []⟩ with
      counts := { s.counts with
        corrected := if s.counts.corrected < 65535 then s.counts.corrected + 1 else s.counts.corrected } })) ∧
    ((s.zone i).test = none → readZone i s = (none, State.pend { s with zones := { s.zones with
      entries := s.zones.entries.set i.toNat ⟨⟨false, 0⟩, []⟩ i.isLt
      tally := if s.zones.tally < 255 then s.zones.tally + 1 else s.zones.tally
      lastIndex := some i } } .map))) ∧
  (∀ (v : ZoneValue) (a b : Nat), (⟨v, []⟩ : ZoneEntry).test = some (v, false) ∧
    (⟨v, [a]⟩ : ZoneEntry).test = some (v, true) ∧ (⟨v, [a, b]⟩ : ZoneEntry).test = none) ∧
  (∀ (i : Byte) (bits : List Nat) (s : State), Running s →
    exec (.storageDisturbance i bits) s = .next (settle (s.setZone i
      ⟨(s.zone i).written, bits.foldl (fun f b => toggleBit b f) (s.zone i).flipped⟩))) ∧
  (∀ (a b : Nat) (f : List Nat), f.Pairwise (· < ·) →
    (toggleBit b f).Pairwise (· < ·) ∧ (a ∈ toggleBit b f ↔ (a ∈ f ∧ a ≠ b) ∨ (a = b ∧ b ∉ f)))

/-- R46, R47, R49, R120 to R123, R126: a header that passes steps 1 to 10 is judged by its windows, its overlap set, the
queue and the pool, in this order, whatever its source stream; a discard carries its channel and its T. R171: an INJECT HEADER
that comes so far answers with the cause. -/
def Obligations.PlacementChecks : Prop :=
  ∀ (tag : Byte) (h : Header) (n : Chan) (d : Int) (s : State), routeCheck h n s = none →
    let c := s.chan n
    let x := launchInstants h.s h.o.toNat h.n.toNat (rateOf h.rate) d c.settings
    let launch : Int := x.t.diff s.tb.time
    let key : Int := launch - c.settings.lead
    let late : Prop := key < s.params.guardG
    let early : Prop := (s.params.horizon : Int) * 10000000 < launch
    let victims := c.queue.filter (fun e => decide (x.tk.diff e.tend < 0) && decide (e.tk.diff x.tend < 0))
    let blocked : Prop := ∃ e ∈ victims, h.priority.toNat ≤ e.priority.val ∨ e.state = .active
    let full : Prop := 16 < c.queue.length - victims.length + 1
    let empty : Prop := s.pool.free.length + (victims.map (fun e => e.chain.length)).sum < (h.n.toNat + 255) / 256
    let injected : Prop := Accepts s ∧ s.context 8 = none ∧ earlyCheck h s = none ∧
      (∃ corrected, (s.zone h.zone).test = some (⟨true, d⟩, corrected)) ∧
      ∃ l : Fin 16, l.val = h.logical.toNat ∧ s.channelMap[l] = some n
    let read := (readZone h.zone s).2
    let discard (o : LaunchOutcome) (code : Byte) : Prop :=
      (∀ src : Stream, admitOn src h n d s =
        (.discarded o, s.writeRecord ⟨h.tag, some n, h.zone, src, o, some x.t, none, 0⟩)) ∧
      (injected → exec (.injectHeader tag h) s = .next (State.enqueue
        (read.writeRecord ⟨h.tag, some n, h.zone, 8, o, some x.t, none, 0⟩) ⟨0xA0, tag, [0x07, code]⟩))
    (late → discard .late 0x0D) ∧
    (¬late → early → discard .tooEarly 0x0E) ∧
    (¬late → ¬early → blocked → discard .overlap 0x11) ∧
    (¬late → ¬early → ¬blocked → full → discard .queueFull 0x10) ∧
    (¬late → ¬early → ¬blocked → ¬full → empty → discard .poolEmpty 0x0F) ∧
    (¬late → ¬early → ¬blocked → ¬full → ¬empty → ∀ src : Stream, (admitOn src h n d s).1 = .admitted)

/-- R95, R105, R111, R112, R125: a header that passes every check, of any source stream: the displaced batches leave first,
then the blocks are taken from the free list's head, the entry is placed by its T, the stream's context opens, and the count
rises; beside these, the records, counts and notices of the displaced batches and the read of the zone entry, nothing else
changes. A holding channel then decides again (R141). R171: an INJECT HEADER so admitted answers OK. Readings or choices of the
model: logs 15, 21 and 29. -/
def Obligations.HeaderCommitted : Prop :=
  ∀ (tag : Byte) (src : Stream) (h : Header) (l : Fin 16) (n : Chan) (v : ZoneValue) (corrected : Bool) (s : State),
    s.context src = none →
    earlyCheck h s = none → (s.zone h.zone).test = some (v, corrected) → v.valid = true → l.val = h.logical.toNat →
    s.channelMap[l] = some n → routeCheck h n s = none →
    let c := s.chan n
    let x := launchInstants h.s h.o.toNat h.n.toNat (rateOf h.rate) v.d c.settings
    let victims := c.queue.filter (fun e => intersects x.tk x.tend e.tk e.tend)
    let stay := c.queue.filter (fun e => !intersects x.tk x.tend e.tk e.tend)
    let free := s.pool.free ++ victims.flatMap (fun e => e.chain)
    let need := (h.n.toNat + 255) / 256
    let e : Entry := ⟨h.tag, h.zone, Fin.ofNat 4 h.priority.toNat, src, .assembling, x.t, x.tk, x.tend, h.n.toNat,
      if h.rate = 0 then .r1600 else .r3200, 0, free.take need, false⟩
    let ahead (y : Entry) : Bool := decide (y.state = .active) || !decide (x.t.diff y.t < 0)
    let displaced : List RecordBody := victims.map (fun y =>
      ⟨y.tag, some n, y.zone, y.source, .preempted, some y.t, some y.received, 0⟩)
    let u := writeRecords displaced (readZone h.zone s).2
    placeCheck h n x s = none → ∃ t,
      admitHeader src h s = (.admitted, redecide n t) ∧
      (src = 8 → Accepts s →
        exec (.injectHeader tag h) s = .next (State.enqueue (redecide n t) ⟨0xA0, tag, [0x00]⟩)) ∧
      t.chan n = { c with queue := stay.takeWhile ahead ++ e :: stay.dropWhile ahead } ∧
      (∀ m, m ≠ n → t.chan m = s.chan m) ∧
      t.pool = ⟨free.drop need, s.pool.cells⟩ ∧
      t.context src = some ⟨h.tag, n, (h.n.toNat + 63) / 64, 0, 0⟩ ∧
      (∀ k : Stream, k ≠ src → t.context k =
        if ∃ y ∈ victims, y.state = .assembling ∧ y.source = k then none else s.context k) ∧
      t.counts.admitted = (if s.counts.admitted < 65535 then s.counts.admitted + 1 else s.counts.admitted) ∧
      t.counts = { u.counts with admitted := t.counts.admitted } ∧
      t.ring.records = (displaced.foldl (fun r b => r.append b s.tb.time) s.ring).records ∧
      t.ring = u.ring ∧ t.port = u.port ∧
      t.zones = (readZone h.zone s).2.zones ∧ t.tb = s.tb ∧ t.params = s.params ∧ t.channelMap = s.channelMap ∧
      t.framer = s.framer ∧ t.dir = s.dir ∧ t.pins = s.pins ∧ t.port.out = s.port.out ∧ t.pending = s.pending

/-- R102, R172: the refusals of INJECT DATA, in their order, and a request whose first segment lies beyond the expected one:
the batch ends with GAP and every further segment is an orphan. -/
def Obligations.InjectDataRefused : Prop :=
  ∀ (tag : Byte) (batch : BitVec 16) (first count : Byte) (segments : List Byte) (s : State), Accepts s →
    let run := exec (.injectData tag batch first count segments) s
    let refuse (body : List Byte) : Host.Outcome State Fault Refusal := .next (s.enqueue ⟨0xA1, tag, body⟩)
    (127 < first.toNat → run = refuse [0x03, 2]) ∧
    (first.toNat ≤ 127 → count.toNat = 0 ∨ 8 < count.toNat ∨ 128 < first.toNat + count.toNat → run = refuse [0x03, 3]) ∧
    (1 ≤ count.toNat → count.toNat ≤ 8 → first.toNat + count.toNat ≤ 128 →
      (segments.length ≠ 16 * count.toNat → run = refuse [0x02]) ∧
      (segments.length = 16 * count.toNat →
        (s.context 8 = none → run = refuse [0x06]) ∧
        (∀ c, s.context 8 = some c → c.tag ≠ batch → run = refuse [0x06]) ∧
        (∀ c, s.context 8 = some c → c.tag = batch → c.next < first.toNat →
          let t := endAssembly 8 c .gap s
          run = .next (State.enqueue
            { t with counts := { t.counts with
              orphans := if t.counts.orphans ≤ 65535 then min 65535 (t.counts.orphans + (count.toNat - 1))
                else t.counts.orphans } }
            ⟨0xA1, tag, [0x07, 0x14, 0, 0, BitVec.ofNat 8 (count.toNat - 1)]⟩))))

/-- R96 to R98, R100, R102, R172: an INJECT DATA whose first segment does not lie beyond the expected one: segments already
received are ignored, those that follow are written where R96 puts their symbols, the last one makes the entry READY and the
context FREE, and any after it are orphans. Every other symbol position keeps its symbol. -/
def Obligations.InjectDataWrites : Prop :=
  ∀ (tag : Byte) (first count : Byte) (segments : List Byte) (c : Context) (e : Entry) (s : State), Accepts s →
    first.toNat + count.toNat ≤ 128 → 1 ≤ count.toNat → count.toNat ≤ 8 → segments.length = 16 * count.toNat →
    ContextsMatch s → TagsUnique s → PoolCanonical s → s.context 8 = some c → contextEntry c s = some e →
    e.chain.Nodup → e.chain.length = (e.n + 255) / 256 → e.n ≤ 8192 → s.counts.orphans ≤ 65535 → first.toNat ≤ c.next →
    let past := first.toNat + count.toNat
    let stop := max c.next (min past c.expected)
    let ready : Prop := stop = c.expected
    let have' := min e.n (64 * stop)
    let e' := { e with received := have', state := if ready then .ready else .assembling }
    let symbol (p : Nat) : Sym :=
      (segments.getD (p / 4 - 16 * first.toNat) 0).extractLsb' (6 - 2 * (p % 4)) 2
    let written : Nat := stop - c.next
    let ignored : Nat := min past c.next - first.toNat
    let orphans : Nat := past - stop
    ∃ t, exec (.injectData tag c.tag first count segments) s = .next (State.enqueue t ⟨0xA1, tag,
        [0x00, if ready then 1 else 0, BitVec.ofNat 8 written, BitVec.ofNat 8 ignored, BitVec.ofNat 8 orphans,
          if ready then 0 else BitVec.ofNat 8 stop]⟩) ∧
      t.chan c.chan = { s.chan c.chan with queue := (s.chan c.chan).queue.map (fun y => if y = e then e' else y) } ∧
      (∀ m, m ≠ c.chan → t.chan m = s.chan m) ∧
      t.context 8 = (if ready then none else some { c with next := stop, received := have' }) ∧
      (∀ k : Stream, k ≠ 8 → t.context k = s.context k) ∧
      t.pool.free = s.pool.free ∧
      (∀ p : Nat, 64 * c.next ≤ p → p < have' →
        cellsRead (symbolAddress e.chain p) t.pool.cells = symbol p) ∧
      (∀ a : Nat, (∀ p : Nat, 64 * c.next ≤ p → p < have' → a ≠ symbolAddress e.chain p) →
        cellsRead a t.pool.cells = cellsRead a s.pool.cells) ∧
      t.counts = { s.counts with orphans := min 65535 (s.counts.orphans + orphans) } ∧
      t.ring = s.ring ∧ t.tb = s.tb ∧ t.params = s.params ∧ t.zones = s.zones ∧ t.channelMap = s.channelMap ∧
      t.framer = s.framer ∧ t.dir = s.dir ∧ t.port = s.port ∧ t.pins = s.pins

/-- R173: CHAIN: its checks in order, and the run of its sub-requests, each as a frame of its own, but a RESET or CHAIN
inside; with the flag set, the first refusal leaves the rest NOT_RUN. -/
def Obligations.ChainRunsSubRequests : Prop :=
  (∀ (tag stop count : Byte) (body : List Byte) (s : State), Accepts s →
    (1 < stop.toNat → exec (.chain tag stop count body) s = .next (s.enqueue ⟨0xBF, tag, [0x03, 1]⟩)) ∧
    (stop.toNat ≤ 1 → count.toNat = 0 ∨ 8 < count.toNat →
      exec (.chain tag stop count body) s = .next (s.enqueue ⟨0xBF, tag, [0x03, 2]⟩)) ∧
    (stop.toNat ≤ 1 → 1 ≤ count.toNat → count.toNat ≤ 8 →
      (∀ subs : List (Byte × List Byte), subs.length = count.toNat → (∀ x ∈ subs, x.2.length < 65536) →
        body = subs.flatMap (fun x => x.1 :: BitVec.ofNat 8 (x.2.length / 256) :: BitVec.ofNat 8 x.2.length :: x.2) →
        let r := runSubs (decide (stop = 1)) false subs s
        exec (.chain tag stop count body) s = .next (State.enqueue r.2 ⟨0xBF, tag, 0x00 :: r.1⟩)) ∧
      ((∀ subs : List (Byte × List Byte), subs.length = count.toNat → (∀ x ∈ subs, x.2.length < 65536) →
        body ≠ subs.flatMap (fun x => x.1 :: BitVec.ofNat 8 (x.2.length / 256) :: BitVec.ofNat 8 x.2.length :: x.2)) →
        exec (.chain tag stop count body) s = .next (s.enqueue ⟨0xBF, tag, [0x02]⟩)))) ∧
  (∀ (stop stopped : Bool) (kind : Byte) (b : List Byte) (rest : List (Byte × List Byte)) (s : State),
    let part (r : Reply) : List Byte := (if kindAssigned kind then kind + 0x80 else 0xFF) ::
      BitVec.ofNat 8 ((r.contents.length + 1) / 256) :: BitVec.ofNat 8 (r.contents.length + 1) :: r.result.code :: r.contents
    let alone : Reply × State := if kind = 0x38 ∨ kind = 0x3F then (⟨.badKind, []⟩, s) else runFrame kind b s
    runSubs stop stopped [] s = ([], s) ∧
    (stopped = true → runSubs stop stopped ((kind, b) :: rest) s =
      (part ⟨.notRun, []⟩ ++ (runSubs stop true rest s).1, (runSubs stop true rest s).2)) ∧
    (stopped = false → let next := runSubs stop (stop && decide (alone.1.result ≠ .ok)) rest alone.2
      runSubs stop stopped ((kind, b) :: rest) s = (part alone.1 ++ next.1, next.2)))

/-! ### The channel sequencers -/

/-- R133, R134, R140: the key instant in IDLE, when it is due: the head is discarded with the first of the five conditions
that applies, or becomes ACTIVE in KEYING with the composed dry state. At any other moment nothing fires (log 2). A key instant that
an edge passed while launching was not allowed finds it so (R4, R8, log 29). -/
def Obligations.KeyInstantKeysOrDiscards : Prop :=
  ∀ (s : State) (n : Chan), Running s →
    let c := s.chan n
    let q := c.seq
    let muted : Prop := q.portMute = true ∨ s.dir.muteMask.getLsbD n.val = true
    let run := exec (.keyInstant n) s
    (q.state ≠ .idle ∨ c.queue = [] → run = .next (settle s)) ∧
    (∀ (e : Entry) (rest : List Entry), q.state = .idle → c.queue = e :: rest →
      let allowed : Prop := ((s.tb.state = .locked ∨ s.tb.state = .holdover) ∧ s.tb.valid = true) ∧ e.passed = false
      let discard (o : LaunchOutcome) : Host.Outcome State Fault Refusal := .next (settle (retire n e o 0 s))
      (0 < e.tk.diff s.tb.time → run = .next (settle s)) ∧
      (e.tk.diff s.tb.time ≤ 0 →
        (e.state ≠ .ready → run = discard .lateData) ∧
        (e.state = .ready →
          (muted → run = discard .muted) ∧
          (¬muted → q.fault = true → run = discard .fault) ∧
          (¬muted → q.fault = false →
            (¬allowed → run = discard .timebase) ∧
            (allowed → s.pins.pwrwarn = true → run = discard .power) ∧
            (allowed → s.pins.pwrwarn = false → run = .next (settle (s.setChan n { c with
              queue := { e with state := .active } :: rest
              seq := { q with
                state := .keying, sent := 0, dry := c.settings.dry || s.dir.dryMask.getLsbD n.val } })))))))

/-- R142, R134, R140: the key instant behind a held batch: the held batch is recorded as launched; an entry that meets no
condition is taken up with the dry state of the batch before it; else it is discarded with the first condition that applies,
and the channel goes to IDLE. Readings or choices of the model: logs 2 and 29. -/
def Obligations.HoldKeyInstantTakesUp : Prop :=
  ∀ (s : State) (n : Chan), Running s →
    let c := s.chan n
    let q := c.seq
    let byHub : Bool := s.dir.muteMask.getLsbD n.val
    let muted : Prop := q.portMute = true ∨ byHub = true
    let run := exec (.holdKeyInstant n) s
    (q.state ≠ .hold ∨ c.queue.length ≤ 1 → run = .next (settle s)) ∧
    (∀ (h e : Entry) (rest : List Entry), q.state = .hold → c.queue = h :: e :: rest →
      let allowed : Prop := ((s.tb.state = .locked ∨ s.tb.state = .holdover) ∧ s.tb.valid = true) ∧ e.passed = false
      let launched := retire n h (if q.dry then .launchedDry else .launched) q.sent s
      let discard (o : LaunchOutcome) : Host.Outcome State Fault Refusal := .next (settle (State.pendIf
        ((retire n e o 0 launched).setChan n { c with
          queue := rest
          seq := { q with
            state := .idle, dry := false, sent := 0, muteAfter := false, portMute := q.portMute || q.muteAfter } })
        (q.muteAfter && !q.portMute && !byHub) .channel))
      (0 < e.tk.diff s.tb.time → run = .next (settle s)) ∧
      (e.tk.diff s.tb.time ≤ 0 →
        (e.state ≠ .ready → run = discard .lateData) ∧
        (e.state = .ready →
          (muted → run = discard .muted) ∧
          (¬muted → q.fault = true → run = discard .fault) ∧
          (¬muted → q.fault = false →
            (¬allowed → run = discard .timebase) ∧
            (allowed → s.pins.pwrwarn = true → run = discard .power) ∧
            (allowed → s.pins.pwrwarn = false → run = .next (settle (launched.setChan n { c with
              queue := { e with state := .active } :: rest
              seq := { q with state := .keying, sent := 0 } })))))))

/-- R42, R43, R107, R136 to R138: the symbol instants of a batch, T + k x P, and its tail start, T + N x P, each when it is
due: a symbol of the chain goes to the lines with the strobe, unless dry, and is counted; the tail start returns the lines to
rest. R132: EXn_KEY is asserted exactly in KEYING, SENDING, TAIL and HOLD while the active batch is not dry. R133, R136, R138,
R139, R142: the instant a sequencer waits for, by its state (log 17). Readings or choices of the model: log 2. -/
def Obligations.SymbolsAndTailStart : Prop :=
  (∀ q : Sequencer, q.key = true ↔
    (q.state = .keying ∨ q.state = .sending ∨ q.state = .tail ∨ q.state = .hold) ∧ q.dry = false) ∧
  (∀ c : Channel,
    (c.queue = [] ∨ c.seq.state = .disabled → c.nextInstant = none) ∧
    (∀ (h : Entry) (rest : List Entry), c.queue = h :: rest →
      let period : Nat := match h.rate with
        | .r1600 => 6250
        | .r3200 => 3125
      (c.seq.state = .idle → c.nextInstant = some h.tk) ∧
      (c.seq.state = .keying → c.nextInstant = some h.t) ∧
      (c.seq.state = .sending → c.seq.sent < h.n → c.nextInstant = some (h.t.later (c.seq.sent * period))) ∧
      (c.seq.state = .sending → h.n ≤ c.seq.sent → c.nextInstant = some (h.t.later (h.n * period))) ∧
      (c.seq.state = .tail → c.nextInstant = some h.tend) ∧
      (c.seq.state = .hold → c.nextInstant = rest.head?.map (fun e => e.tk)))) ∧
  ∀ (s : State) (n : Chan) (h : Entry) (rest : List Entry), Running s → (s.chan n).queue = h :: rest →
    let q := (s.chan n).seq
    let period : Nat := match h.rate with
      | .r1600 => 6250
      | .r3200 => 3125
    let waits : Prop := q.state = .keying ∨ (q.state = .sending ∧ q.sent < h.n)
    let at' : SiteTime := if q.state = .keying then h.t else h.t.later (q.sent * period)
    let symbol : Sym := cellsRead (256 * h.chain.getD (q.sent / 256) 0 + q.sent % 256) s.pool.cells
    let tail : SiteTime := h.t.later (h.n * period)
    (waits → at'.diff s.tb.time ≤ 0 → exec (.symbolInstant n) s = .next (settle (s.setSeq n { q with
      state := .sending, sent := q.sent + 1
      lines := if q.dry then q.lines else symbol
      strobe := if q.dry then q.strobe else some 0 }))) ∧
    (¬waits ∨ 0 < at'.diff s.tb.time → exec (.symbolInstant n) s = .next (settle s)) ∧
    (q.state = .sending → h.n ≤ q.sent → tail.diff s.tb.time ≤ 0 →
      exec (.tailStart n) s = .next (settle (s.setSeq n { q with state := .tail, lines := 0 }))) ∧
    (q.state ≠ .sending ∨ q.sent < h.n ∨ 0 < tail.diff s.tb.time → exec (.tailStart n) s = .next (settle s))

/-- R139: the end of airtime: HOLD when all five conditions hold, else the release as LAUNCHED or LAUNCHED_DRY. Readings or
choices of the model: log 2. -/
def Obligations.EndOfAirtimeHoldsOrReleases : Prop :=
  ∀ (s : State) (n : Chan) (h : Entry) (rest : List Entry), Running s → (s.chan n).queue = h :: rest → h.state = .active →
    let c := s.chan n
    let q := c.seq
    let holds : Prop := (∃ b ∈ rest.head?, b.tk.diff h.tend ≤ c.settings.holdGap) ∧ q.muteAfter = false ∧ q.fault = false ∧
      s.pins.pwrwarn = false
    let run := exec (.endOfAirtime n) s
    (q.state ≠ .tail ∨ 0 < h.tend.diff s.tb.time → run = .next (settle s)) ∧
    (q.state = .tail → h.tend.diff s.tb.time ≤ 0 → holds → run = .next (settle (s.setSeq n { q with state := .hold }))) ∧
    (q.state = .tail → h.tend.diff s.tb.time ≤ 0 → ¬holds → ∃ t, run = .next (settle t) ∧
      BatchEnded s n h rest (if q.dry then .launchedDry else .launched) q.lines q.strobe t)

/-- R146: an exciter fault asserting and clearing: the condition follows the input with the CHANNEL notice; KEYING, SENDING
and HOLD are cut with ABORTED_FAULT, TAIL and the unkeyed states run on. R148, R149: PWRWARN asserting cuts the channels in
KEYING or HOLD with POWER, 0 to 3, and leaves the others; its release changes no channel; each change makes the POWER notice
pending. Readings or choices of the model: log 26. -/
def Obligations.FaultAndPowerWarning : Prop :=
  (∀ (s : State) (n : Chan), Running s →
      let q := (s.chan n).seq
      let asserted := (s.setSeq n { q with fault := true }).pend .channel
      (q.fault = true → exec (.exciterFaultAssert n) s = .next (settle s)) ∧
      (q.fault = false → exec (.exciterFaultClear n) s = .next (settle s)) ∧
      (q.fault = true → exec (.exciterFaultClear n) s =
        .next (settle ((s.setSeq n { q with fault := false }).pend .channel))) ∧
      (q.fault = false → q.state = .idle ∨ q.state = .disabled ∨ q.state = .tail →
        exec (.exciterFaultAssert n) s = .next (settle asserted)) ∧
      (∀ (h : Entry) (rest : List Entry), q.fault = false → q.state = .keying ∨ q.state = .sending ∨ q.state = .hold →
        (s.chan n).queue = h :: rest → h.state = .active → ∃ t,
        exec (.exciterFaultAssert n) s = .next (settle t) ∧ BatchEnded asserted n h rest .abortedFault 0 none t)) ∧
  ((∀ s : State, Running s →
      (s.pins.pwrwarn = true → exec .pwrwarnAssert s = .next (settle s)) ∧
      (s.pins.pwrwarn = false → exec .pwrwarnRelease s = .next (settle s)) ∧
      (s.pins.pwrwarn = true → exec .pwrwarnRelease s =
        .next (settle (State.pend { s with pins := { s.pins with pwrwarn := false } } .power))) ∧
      (s.pins.pwrwarn = false → exec .pwrwarnAssert s = .next (settle ([0, 1, 2, 3].foldl (fun t n => cutPower n t)
        (State.pend { s with pins := { s.pins with pwrwarn := true } } .power))))) ∧
    (∀ (n : Chan) (s : State),
      ((s.chan n).seq.state ≠ .keying → (s.chan n).seq.state ≠ .hold → cutPower n s = s) ∧
      (∀ (h : Entry) (rest : List Entry), (s.chan n).seq.state = .keying ∨ (s.chan n).seq.state = .hold →
        (s.chan n).queue = h :: rest → h.state = .active → BatchEnded s n h rest .power 0 none (cutPower n s))))

/-! ### Arithmetic -/

/-- R39, R40, R41: T and Tk of a header, with one borrow or one carry each. -/
def Obligations.LaunchInstantAndKeyInstant : Prop :=
  ∀ (sec : BitVec 32) (o n : Nat) (rate : Rate) (d : Int) (c : Settings), o < 10000000 → -50000 ≤ d → d ≤ 50000 →
    c.latency ≤ 200000 → c.lead ≤ 200000 →
    let a : Int := d - c.latency
    let q : Int := o + a
    let k : Nat := c.lead
    let x := launchInstants sec o n rate d c
    (-250000 ≤ a ∧ a ≤ 50000 ∧ -250000 ≤ q ∧ q ≤ 10049999) ∧
    (q < 0 → x.t.second = sec - 1 ∧ (x.t.offset : Int) = q + 10000000) ∧
    (0 ≤ q → q < 10000000 → x.t.second = sec ∧ (x.t.offset : Int) = q) ∧
    (10000000 ≤ q → x.t.second = sec + 1 ∧ (x.t.offset : Int) = q - 10000000) ∧
    x.t.offset < 10000000 ∧ x.tk.offset < 10000000 ∧
    (k ≤ x.t.offset → x.tk = ⟨x.t.second, x.t.offset - k⟩) ∧
    (x.t.offset < k → x.tk = ⟨x.t.second - 1, x.t.offset + 10000000 - k⟩) ∧
    (k = 0 → x.tk = x.t) ∧
    (q < 0 → 9750000 ≤ x.t.offset ∧ x.tk.second = sec - 1) ∧
    (10000000 ≤ q → x.t.offset < k → x.tk.second = sec) ∧
    (0 ≤ q → q < k → x.t.second = sec ∧ x.tk.second = sec - 1)

/-- R42 to R44: the symbol instants, the tail start and Tend by the division of R43; the airtime interval's length and
bounds, the order of its instants, and when two intervals intersect. -/
def Obligations.AirtimeInterval : Prop :=
  ∀ (sec : BitVec 32) (o n : Nat) (rate : Rate) (d : Int) (c : Settings), o < 10000000 → -50000 ≤ d → d ≤ 50000 →
    c.latency ≤ 200000 → c.lead ≤ 200000 → c.tail ≤ 100000 → 1 ≤ n → n ≤ 8192 →
    let p : Nat := match rate with
      | .r1600 => 6250
      | .r3200 => 3125
    let x := launchInstants sec o n rate d c
    let tail := x.t.later (n * p)
    let sum := x.t.offset + (n * p + c.tail)
    x.tend = ⟨x.t.second + BitVec.ofNat 32 (sum / 10000000), sum % 10000000⟩ ∧ sum / 10000000 ≤ 6 ∧
    x.tend.diff x.tk = c.lead + n * p + c.tail ∧ 3125 ≤ c.lead + n * p + c.tail ∧ c.lead + n * p + c.tail ≤ 51500000 ∧
    x.tk.diff x.t ≤ 0 ∧ x.t.diff tail < 0 ∧ tail.diff x.tend ≤ 0 ∧ x.t.diff x.tend < 0 ∧ (c.tail = 0 → x.tend = tail) ∧
    (∀ k, k < n → (x.t.later (k * p)).later p = x.t.later ((k + 1) * p)) ∧
    (∀ tk1 tend1 tk2 tend2 : SiteTime, intersects tk1 tend1 tk2 tend2 = true ↔ tk1.diff tend2 < 0 ∧ tk2.diff tend1 < 0)

/-- R45: the signed difference of two site times, its sign, seconds 2^31 apart, and the wrap. -/
def Obligations.SignedTimeDifference : Prop :=
  ∀ x y : SiteTime, x.offset < 10000000 → y.offset < 10000000 →
    let raw : Nat := (x.second.toNat + (4294967296 - y.second.toNat)) % 4294967296
    let signed : Int := if raw < 2147483648 then (raw : Int) else (raw : Int) - 4294967296
    x.diff y = signed * 10000000 + ((x.offset : Int) - (y.offset : Int)) ∧
    -9999999 ≤ (x.offset : Int) - (y.offset : Int) ∧ (x.offset : Int) - (y.offset : Int) ≤ 9999999 ∧
    (x.before y = true ↔ x.diff y < 0) ∧ (x.diff y = 0 ↔ x = y) ∧ (x.due y = true ↔ x.diff y ≤ 0) ∧
    (raw = 2147483648 → x.before y = true) ∧
    SiteTime.diff ⟨0, 0⟩ ⟨4294967295, 9999999⟩ = 1

/-- R180: the check sequence bit by bit, its value over "123456789", the computation that ends at 0 exactly when the check
is good, and the covered bytes of each frame. -/
def Obligations.CheckSequence : Prop :=
  (∀ (r : BitVec 16) (d : Bool), crcBit r d =
    (if (r.getLsbD 15 ^^ d) then (r <<< 1) ^^^ 0x1021 else r <<< 1)) ∧
  (∀ (r : BitVec 16) (b : Byte), crcByte r b = crcBit (crcBit (crcBit (crcBit (crcBit (crcBit (crcBit (crcBit r
    (b.getLsbD 7)) (b.getLsbD 6)) (b.getLsbD 5)) (b.getLsbD 4)) (b.getLsbD 3)) (b.getLsbD 2)) (b.getLsbD 1)) (b.getLsbD 0)) ∧
  crc16 [] = 0xFFFF ∧ (∀ (bytes : List Byte) (b : Byte), crc16 (bytes ++ [b]) = crcByte (crc16 bytes) b) ∧
  crc16 [0x31, 0x32, 0x33, 0x34, 0x35, 0x36, 0x37, 0x38, 0x39] = 0x29B1 ∧
  (∀ (bytes : List Byte) (high low : Byte), crc16 (bytes ++ [high, low]) = 0 ↔ high ++ low = crc16 bytes) ∧
  (∀ f : Frame, f.body.length < 65536 →
    let covered := [BitVec.ofNat 8 (f.body.length / 256), BitVec.ofNat 8 f.body.length, f.kind, f.tag] ++ f.body
    f.bytes = [0xA5] ++ covered ++ [(crc16 covered).extractLsb' 8 8, (crc16 covered).extractLsb' 0 8]) ∧
  (∀ f : Superframe, coveredBytes f = [f.number, f.flags, f.word.extractLsb' 24 8, f.word.extractLsb' 16 8,
    f.word.extractLsb' 8 8, f.word.extractLsb' 0 8] ++ f.slots[0].toList ++ f.slots[1].toList ++ f.slots[2].toList ++
    f.slots[3].toList) ∧
  (∀ f : Superframe, (coveredBytes f).length = 78 ∧ (checkGood f = true ↔ crc16 (coveredBytes f) = f.check)) ∧
  (∀ s : State, s.uplinkBytes.length = 13 ∧ crc16 (s.uplinkBytes.drop 2) = 0)

/-! ### Invariants -/

/-- The state after reset is sound in every respect the statements below keep. Readings or choices of the model: log 8. -/
def Obligations.ResetIsSound : Prop :=
  let s := State.reset
  TimeInRange s ∧ NoticesSent s ∧ OutputBounded s ∧ PoolBalanced s ∧ PoolCanonical s ∧ CountsBounded s ∧ RingNumbered s ∧
    QueuesBounded s ∧ IntervalsDisjoint s ∧ TagsUnique s ∧ ChannelsSound s ∧ KeyedOnlyAllowed s ∧ ContextsMatch s ∧
    ChainsSized s ∧ ParamsInRange s ∧ TimebaseSound s ∧ s.pending = [] ∧ s.pool.free = List.range 384 ∧ s.pool.cells = []

/-- R104: every block is on the free list or in one chain, once, after every step, and the chain of every held batch of N
symbols holds ceiling(N / 256) blocks. -/
def Obligations.PoolStaysBalanced : Prop :=
  (∀ s t : State, PoolBalanced s → step s = .next t → PoolBalanced t) ∧
  (∀ s t : State, ChainsSized s → step s = .next t → ChainsSized t)

/-- R154: at most 64 records, numbered consecutively up to the next number less one, after every step. -/
def Obligations.RingStaysNumbered : Prop :=
  ∀ s t : State, RingNumbered s → step s = .next t → RingNumbered t

/-- R111: each queue holds at most 16 entries, whose airtime intervals are pairwise disjoint, after every step. -/
def Obligations.QueuesStayDisjoint : Prop :=
  ∀ s t : State, step s = .next t →
    (QueuesBounded s → QueuesBounded t) ∧ (IntervalsDisjoint s → IntervalsDisjoint t)

/-- R91, R97, R119: the OPEN contexts and the ASSEMBLING entries stay in step, and no tag is held twice. -/
def Obligations.ContextsStayMatched : Prop :=
  ∀ s t : State, ContextsMatch s → TagsUnique s → step s = .next t → ContextsMatch t ∧ TagsUnique t

/-- R35, R131, R132: a sequencer is keyed exactly while its queue's head is ACTIVE, and its lines follow its state. -/
def Obligations.ChannelsStaySound : Prop :=
  ∀ s t : State, ChannelsSound s → step s = .next t → ChannelsSound t

/-- R19, R133: a channel is keyed only while launching is allowed. -/
def Obligations.KeyedOnlyWhileAllowed : Prop :=
  ∀ s t : State, KeyedOnlyAllowed s → step s = .next t → KeyedOnlyAllowed t

/-- R165, R174: at most four frames wait, and no notice waits beside an empty output queue unless a reset is pending. R158 and
the canonical form of the symbol positions: counts stay within 0..65,535, and written positions in rising order. Readings or
choices of the model: logs 8 and 16. -/
def Obligations.PortCountsAndCellsStaySound : Prop :=
  (∀ s t : State, step s = .next t → (OutputBounded s → OutputBounded t) ∧ (NoticesSent s → NoticesSent t)) ∧
  (∀ s t : State, step s = .next t → (CountsBounded s → CountsBounded t) ∧ (PoolCanonical s → PoolCanonical t))

/-- R1, R167 and the ranges of chapter 1: site time, the parameters and the Timebase's counts stay in their ranges. -/
def Obligations.TimebaseStaysSound : Prop :=
  ∀ s t : State, TimeInRange s → ParamsInRange s → TimebaseSound s → step s = .next t →
    TimeInRange t ∧ ParamsInRange t ∧ TimebaseSound t
end

