-- ==== Sys2Proof/Laws/State.lean ====
section
/-! SUPPORT. What each named update of the state leaves in each field. -/

namespace Sys2Proof.Machine


/-! ### setChan -/

@[simp] theorem State.setChan_tb (s : State) (n : Chan) (c : Channel) : (s.setChan n c).tb = s.tb := rfl
@[simp] theorem State.setChan_params (s : State) (n : Chan) (c : Channel) : (s.setChan n c).params = s.params := rfl
@[simp] theorem State.setChan_zones (s : State) (n : Chan) (c : Channel) : (s.setChan n c).zones = s.zones := rfl
@[simp] theorem State.setChan_channelMap (s : State) (n : Chan) (c : Channel) : (s.setChan n c).channelMap = s.channelMap := rfl
@[simp] theorem State.setChan_channels (s : State) (n : Chan) (c : Channel) : (s.setChan n c).channels = s.channels.set n c := rfl
@[simp] theorem State.setChan_framer (s : State) (n : Chan) (c : Channel) : (s.setChan n c).framer = s.framer := rfl
@[simp] theorem State.setChan_dir (s : State) (n : Chan) (c : Channel) : (s.setChan n c).dir = s.dir := rfl
@[simp] theorem State.setChan_contexts (s : State) (n : Chan) (c : Channel) : (s.setChan n c).contexts = s.contexts := rfl
@[simp] theorem State.setChan_pool (s : State) (n : Chan) (c : Channel) : (s.setChan n c).pool = s.pool := rfl
@[simp] theorem State.setChan_ring (s : State) (n : Chan) (c : Channel) : (s.setChan n c).ring = s.ring := rfl
@[simp] theorem State.setChan_counts (s : State) (n : Chan) (c : Channel) : (s.setChan n c).counts = s.counts := rfl
@[simp] theorem State.setChan_port (s : State) (n : Chan) (c : Channel) : (s.setChan n c).port = s.port := rfl
@[simp] theorem State.setChan_pins (s : State) (n : Chan) (c : Channel) : (s.setChan n c).pins = s.pins := rfl
@[simp] theorem State.setChan_pending (s : State) (n : Chan) (c : Channel) : (s.setChan n c).pending = s.pending := rfl

/-! ### setSeq -/

@[simp] theorem State.setSeq_tb (s : State) (n : Chan) (q : Sequencer) : (s.setSeq n q).tb = s.tb := rfl
@[simp] theorem State.setSeq_params (s : State) (n : Chan) (q : Sequencer) : (s.setSeq n q).params = s.params := rfl
@[simp] theorem State.setSeq_zones (s : State) (n : Chan) (q : Sequencer) : (s.setSeq n q).zones = s.zones := rfl
@[simp] theorem State.setSeq_channelMap (s : State) (n : Chan) (q : Sequencer) : (s.setSeq n q).channelMap = s.channelMap := rfl
@[simp] theorem State.setSeq_channels (s : State) (n : Chan) (q : Sequencer) : (s.setSeq n q).channels = s.channels.set n { s.chan n with seq := q } := rfl
@[simp] theorem State.setSeq_framer (s : State) (n : Chan) (q : Sequencer) : (s.setSeq n q).framer = s.framer := rfl
@[simp] theorem State.setSeq_dir (s : State) (n : Chan) (q : Sequencer) : (s.setSeq n q).dir = s.dir := rfl
@[simp] theorem State.setSeq_contexts (s : State) (n : Chan) (q : Sequencer) : (s.setSeq n q).contexts = s.contexts := rfl
@[simp] theorem State.setSeq_pool (s : State) (n : Chan) (q : Sequencer) : (s.setSeq n q).pool = s.pool := rfl
@[simp] theorem State.setSeq_ring (s : State) (n : Chan) (q : Sequencer) : (s.setSeq n q).ring = s.ring := rfl
@[simp] theorem State.setSeq_counts (s : State) (n : Chan) (q : Sequencer) : (s.setSeq n q).counts = s.counts := rfl
@[simp] theorem State.setSeq_port (s : State) (n : Chan) (q : Sequencer) : (s.setSeq n q).port = s.port := rfl
@[simp] theorem State.setSeq_pins (s : State) (n : Chan) (q : Sequencer) : (s.setSeq n q).pins = s.pins := rfl
@[simp] theorem State.setSeq_pending (s : State) (n : Chan) (q : Sequencer) : (s.setSeq n q).pending = s.pending := rfl

/-! ### setQueue -/

@[simp] theorem State.setQueue_tb (s : State) (n : Chan) (q : List Entry) : (s.setQueue n q).tb = s.tb := rfl
@[simp] theorem State.setQueue_params (s : State) (n : Chan) (q : List Entry) : (s.setQueue n q).params = s.params := rfl
@[simp] theorem State.setQueue_zones (s : State) (n : Chan) (q : List Entry) : (s.setQueue n q).zones = s.zones := rfl
@[simp] theorem State.setQueue_channelMap (s : State) (n : Chan) (q : List Entry) : (s.setQueue n q).channelMap = s.channelMap := rfl
@[simp] theorem State.setQueue_channels (s : State) (n : Chan) (q : List Entry) : (s.setQueue n q).channels = s.channels.set n { s.chan n with queue := q } := rfl
@[simp] theorem State.setQueue_framer (s : State) (n : Chan) (q : List Entry) : (s.setQueue n q).framer = s.framer := rfl
@[simp] theorem State.setQueue_dir (s : State) (n : Chan) (q : List Entry) : (s.setQueue n q).dir = s.dir := rfl
@[simp] theorem State.setQueue_contexts (s : State) (n : Chan) (q : List Entry) : (s.setQueue n q).contexts = s.contexts := rfl
@[simp] theorem State.setQueue_pool (s : State) (n : Chan) (q : List Entry) : (s.setQueue n q).pool = s.pool := rfl
@[simp] theorem State.setQueue_ring (s : State) (n : Chan) (q : List Entry) : (s.setQueue n q).ring = s.ring := rfl
@[simp] theorem State.setQueue_counts (s : State) (n : Chan) (q : List Entry) : (s.setQueue n q).counts = s.counts := rfl
@[simp] theorem State.setQueue_port (s : State) (n : Chan) (q : List Entry) : (s.setQueue n q).port = s.port := rfl
@[simp] theorem State.setQueue_pins (s : State) (n : Chan) (q : List Entry) : (s.setQueue n q).pins = s.pins := rfl
@[simp] theorem State.setQueue_pending (s : State) (n : Chan) (q : List Entry) : (s.setQueue n q).pending = s.pending := rfl

/-! ### setContext -/

@[simp] theorem State.setContext_tb (s : State) (k : Stream) (c : Option Context) : (s.setContext k c).tb = s.tb := rfl
@[simp] theorem State.setContext_params (s : State) (k : Stream) (c : Option Context) : (s.setContext k c).params = s.params := rfl
@[simp] theorem State.setContext_zones (s : State) (k : Stream) (c : Option Context) : (s.setContext k c).zones = s.zones := rfl
@[simp] theorem State.setContext_channelMap (s : State) (k : Stream) (c : Option Context) : (s.setContext k c).channelMap = s.channelMap := rfl
@[simp] theorem State.setContext_channels (s : State) (k : Stream) (c : Option Context) : (s.setContext k c).channels = s.channels := rfl
@[simp] theorem State.setContext_framer (s : State) (k : Stream) (c : Option Context) : (s.setContext k c).framer = s.framer := rfl
@[simp] theorem State.setContext_dir (s : State) (k : Stream) (c : Option Context) : (s.setContext k c).dir = s.dir := rfl
@[simp] theorem State.setContext_contexts (s : State) (k : Stream) (c : Option Context) : (s.setContext k c).contexts = s.contexts.set k c := rfl
@[simp] theorem State.setContext_pool (s : State) (k : Stream) (c : Option Context) : (s.setContext k c).pool = s.pool := rfl
@[simp] theorem State.setContext_ring (s : State) (k : Stream) (c : Option Context) : (s.setContext k c).ring = s.ring := rfl
@[simp] theorem State.setContext_counts (s : State) (k : Stream) (c : Option Context) : (s.setContext k c).counts = s.counts := rfl
@[simp] theorem State.setContext_port (s : State) (k : Stream) (c : Option Context) : (s.setContext k c).port = s.port := rfl
@[simp] theorem State.setContext_pins (s : State) (k : Stream) (c : Option Context) : (s.setContext k c).pins = s.pins := rfl
@[simp] theorem State.setContext_pending (s : State) (k : Stream) (c : Option Context) : (s.setContext k c).pending = s.pending := rfl

/-! ### setZone -/

@[simp] theorem State.setZone_tb (s : State) (i : Byte) (e : ZoneEntry) : (s.setZone i e).tb = s.tb := rfl
@[simp] theorem State.setZone_params (s : State) (i : Byte) (e : ZoneEntry) : (s.setZone i e).params = s.params := rfl
@[simp] theorem State.setZone_zones (s : State) (i : Byte) (e : ZoneEntry) : (s.setZone i e).zones = { s.zones with entries := s.zones.entries.set i.toNat e i.isLt } := rfl
@[simp] theorem State.setZone_channelMap (s : State) (i : Byte) (e : ZoneEntry) : (s.setZone i e).channelMap = s.channelMap := rfl
@[simp] theorem State.setZone_channels (s : State) (i : Byte) (e : ZoneEntry) : (s.setZone i e).channels = s.channels := rfl
@[simp] theorem State.setZone_framer (s : State) (i : Byte) (e : ZoneEntry) : (s.setZone i e).framer = s.framer := rfl
@[simp] theorem State.setZone_dir (s : State) (i : Byte) (e : ZoneEntry) : (s.setZone i e).dir = s.dir := rfl
@[simp] theorem State.setZone_contexts (s : State) (i : Byte) (e : ZoneEntry) : (s.setZone i e).contexts = s.contexts := rfl
@[simp] theorem State.setZone_pool (s : State) (i : Byte) (e : ZoneEntry) : (s.setZone i e).pool = s.pool := rfl
@[simp] theorem State.setZone_ring (s : State) (i : Byte) (e : ZoneEntry) : (s.setZone i e).ring = s.ring := rfl
@[simp] theorem State.setZone_counts (s : State) (i : Byte) (e : ZoneEntry) : (s.setZone i e).counts = s.counts := rfl
@[simp] theorem State.setZone_port (s : State) (i : Byte) (e : ZoneEntry) : (s.setZone i e).port = s.port := rfl
@[simp] theorem State.setZone_pins (s : State) (i : Byte) (e : ZoneEntry) : (s.setZone i e).pins = s.pins := rfl
@[simp] theorem State.setZone_pending (s : State) (i : Byte) (e : ZoneEntry) : (s.setZone i e).pending = s.pending := rfl

/-! ### setDir -/

@[simp] theorem State.setDir_tb (s : State) (d : Directives) : (s.setDir d).tb = s.tb := rfl
@[simp] theorem State.setDir_params (s : State) (d : Directives) : (s.setDir d).params = s.params := rfl
@[simp] theorem State.setDir_zones (s : State) (d : Directives) : (s.setDir d).zones = s.zones := rfl
@[simp] theorem State.setDir_channelMap (s : State) (d : Directives) : (s.setDir d).channelMap = s.channelMap := rfl
@[simp] theorem State.setDir_channels (s : State) (d : Directives) : (s.setDir d).channels = s.channels := rfl
@[simp] theorem State.setDir_framer (s : State) (d : Directives) : (s.setDir d).framer = s.framer := rfl
@[simp] theorem State.setDir_dir (s : State) (d : Directives) : (s.setDir d).dir = d := rfl
@[simp] theorem State.setDir_contexts (s : State) (d : Directives) : (s.setDir d).contexts = s.contexts := rfl
@[simp] theorem State.setDir_pool (s : State) (d : Directives) : (s.setDir d).pool = s.pool := rfl
@[simp] theorem State.setDir_ring (s : State) (d : Directives) : (s.setDir d).ring = s.ring := rfl
@[simp] theorem State.setDir_counts (s : State) (d : Directives) : (s.setDir d).counts = s.counts := rfl
@[simp] theorem State.setDir_port (s : State) (d : Directives) : (s.setDir d).port = s.port := rfl
@[simp] theorem State.setDir_pins (s : State) (d : Directives) : (s.setDir d).pins = s.pins := rfl
@[simp] theorem State.setDir_pending (s : State) (d : Directives) : (s.setDir d).pending = s.pending := rfl

/-! ### setFramer -/

@[simp] theorem State.setFramer_tb (s : State) (f : Framer) : (s.setFramer f).tb = s.tb := rfl
@[simp] theorem State.setFramer_params (s : State) (f : Framer) : (s.setFramer f).params = s.params := rfl
@[simp] theorem State.setFramer_zones (s : State) (f : Framer) : (s.setFramer f).zones = s.zones := rfl
@[simp] theorem State.setFramer_channelMap (s : State) (f : Framer) : (s.setFramer f).channelMap = s.channelMap := rfl
@[simp] theorem State.setFramer_channels (s : State) (f : Framer) : (s.setFramer f).channels = s.channels := rfl
@[simp] theorem State.setFramer_framer (s : State) (f : Framer) : (s.setFramer f).framer = f := rfl
@[simp] theorem State.setFramer_dir (s : State) (f : Framer) : (s.setFramer f).dir = s.dir := rfl
@[simp] theorem State.setFramer_contexts (s : State) (f : Framer) : (s.setFramer f).contexts = s.contexts := rfl
@[simp] theorem State.setFramer_pool (s : State) (f : Framer) : (s.setFramer f).pool = s.pool := rfl
@[simp] theorem State.setFramer_ring (s : State) (f : Framer) : (s.setFramer f).ring = s.ring := rfl
@[simp] theorem State.setFramer_counts (s : State) (f : Framer) : (s.setFramer f).counts = s.counts := rfl
@[simp] theorem State.setFramer_port (s : State) (f : Framer) : (s.setFramer f).port = s.port := rfl
@[simp] theorem State.setFramer_pins (s : State) (f : Framer) : (s.setFramer f).pins = s.pins := rfl
@[simp] theorem State.setFramer_pending (s : State) (f : Framer) : (s.setFramer f).pending = s.pending := rfl

/-! ### setTb -/

@[simp] theorem State.setTb_tb (s : State) (t : Timebase) : (s.setTb t).tb = t := rfl
@[simp] theorem State.setTb_params (s : State) (t : Timebase) : (s.setTb t).params = s.params := rfl
@[simp] theorem State.setTb_zones (s : State) (t : Timebase) : (s.setTb t).zones = s.zones := rfl
@[simp] theorem State.setTb_channelMap (s : State) (t : Timebase) : (s.setTb t).channelMap = s.channelMap := rfl
@[simp] theorem State.setTb_channels (s : State) (t : Timebase) : (s.setTb t).channels = s.channels := rfl
@[simp] theorem State.setTb_framer (s : State) (t : Timebase) : (s.setTb t).framer = s.framer := rfl
@[simp] theorem State.setTb_dir (s : State) (t : Timebase) : (s.setTb t).dir = s.dir := rfl
@[simp] theorem State.setTb_contexts (s : State) (t : Timebase) : (s.setTb t).contexts = s.contexts := rfl
@[simp] theorem State.setTb_pool (s : State) (t : Timebase) : (s.setTb t).pool = s.pool := rfl
@[simp] theorem State.setTb_ring (s : State) (t : Timebase) : (s.setTb t).ring = s.ring := rfl
@[simp] theorem State.setTb_counts (s : State) (t : Timebase) : (s.setTb t).counts = s.counts := rfl
@[simp] theorem State.setTb_port (s : State) (t : Timebase) : (s.setTb t).port = s.port := rfl
@[simp] theorem State.setTb_pins (s : State) (t : Timebase) : (s.setTb t).pins = s.pins := rfl
@[simp] theorem State.setTb_pending (s : State) (t : Timebase) : (s.setTb t).pending = s.pending := rfl

/-! ### setPort -/

@[simp] theorem State.setPort_tb (s : State) (p : Port) : (s.setPort p).tb = s.tb := rfl
@[simp] theorem State.setPort_params (s : State) (p : Port) : (s.setPort p).params = s.params := rfl
@[simp] theorem State.setPort_zones (s : State) (p : Port) : (s.setPort p).zones = s.zones := rfl
@[simp] theorem State.setPort_channelMap (s : State) (p : Port) : (s.setPort p).channelMap = s.channelMap := rfl
@[simp] theorem State.setPort_channels (s : State) (p : Port) : (s.setPort p).channels = s.channels := rfl
@[simp] theorem State.setPort_framer (s : State) (p : Port) : (s.setPort p).framer = s.framer := rfl
@[simp] theorem State.setPort_dir (s : State) (p : Port) : (s.setPort p).dir = s.dir := rfl
@[simp] theorem State.setPort_contexts (s : State) (p : Port) : (s.setPort p).contexts = s.contexts := rfl
@[simp] theorem State.setPort_pool (s : State) (p : Port) : (s.setPort p).pool = s.pool := rfl
@[simp] theorem State.setPort_ring (s : State) (p : Port) : (s.setPort p).ring = s.ring := rfl
@[simp] theorem State.setPort_counts (s : State) (p : Port) : (s.setPort p).counts = s.counts := rfl
@[simp] theorem State.setPort_port (s : State) (p : Port) : (s.setPort p).port = p := rfl
@[simp] theorem State.setPort_pins (s : State) (p : Port) : (s.setPort p).pins = s.pins := rfl
@[simp] theorem State.setPort_pending (s : State) (p : Port) : (s.setPort p).pending = s.pending := rfl

/-! ### freeBlocks -/

@[simp] theorem State.freeBlocks_tb (s : State) (blocks : List Nat) : (s.freeBlocks blocks).tb = s.tb := rfl
@[simp] theorem State.freeBlocks_params (s : State) (blocks : List Nat) : (s.freeBlocks blocks).params = s.params := rfl
@[simp] theorem State.freeBlocks_zones (s : State) (blocks : List Nat) : (s.freeBlocks blocks).zones = s.zones := rfl
@[simp] theorem State.freeBlocks_channelMap (s : State) (blocks : List Nat) : (s.freeBlocks blocks).channelMap = s.channelMap := rfl
@[simp] theorem State.freeBlocks_channels (s : State) (blocks : List Nat) : (s.freeBlocks blocks).channels = s.channels := rfl
@[simp] theorem State.freeBlocks_framer (s : State) (blocks : List Nat) : (s.freeBlocks blocks).framer = s.framer := rfl
@[simp] theorem State.freeBlocks_dir (s : State) (blocks : List Nat) : (s.freeBlocks blocks).dir = s.dir := rfl
@[simp] theorem State.freeBlocks_contexts (s : State) (blocks : List Nat) : (s.freeBlocks blocks).contexts = s.contexts := rfl
@[simp] theorem State.freeBlocks_pool (s : State) (blocks : List Nat) : (s.freeBlocks blocks).pool = { s.pool with free := s.pool.free ++ blocks } := rfl
@[simp] theorem State.freeBlocks_ring (s : State) (blocks : List Nat) : (s.freeBlocks blocks).ring = s.ring := rfl
@[simp] theorem State.freeBlocks_counts (s : State) (blocks : List Nat) : (s.freeBlocks blocks).counts = s.counts := rfl
@[simp] theorem State.freeBlocks_port (s : State) (blocks : List Nat) : (s.freeBlocks blocks).port = s.port := rfl
@[simp] theorem State.freeBlocks_pins (s : State) (blocks : List Nat) : (s.freeBlocks blocks).pins = s.pins := rfl
@[simp] theorem State.freeBlocks_pending (s : State) (blocks : List Nat) : (s.freeBlocks blocks).pending = s.pending := rfl

/-! ### enqueue -/

@[simp] theorem State.enqueue_tb (s : State) (f : Frame) : (s.enqueue f).tb = s.tb := rfl
@[simp] theorem State.enqueue_params (s : State) (f : Frame) : (s.enqueue f).params = s.params := rfl
@[simp] theorem State.enqueue_zones (s : State) (f : Frame) : (s.enqueue f).zones = s.zones := rfl
@[simp] theorem State.enqueue_channelMap (s : State) (f : Frame) : (s.enqueue f).channelMap = s.channelMap := rfl
@[simp] theorem State.enqueue_channels (s : State) (f : Frame) : (s.enqueue f).channels = s.channels := rfl
@[simp] theorem State.enqueue_framer (s : State) (f : Frame) : (s.enqueue f).framer = s.framer := rfl
@[simp] theorem State.enqueue_dir (s : State) (f : Frame) : (s.enqueue f).dir = s.dir := rfl
@[simp] theorem State.enqueue_contexts (s : State) (f : Frame) : (s.enqueue f).contexts = s.contexts := rfl
@[simp] theorem State.enqueue_pool (s : State) (f : Frame) : (s.enqueue f).pool = s.pool := rfl
@[simp] theorem State.enqueue_ring (s : State) (f : Frame) : (s.enqueue f).ring = s.ring := rfl
@[simp] theorem State.enqueue_counts (s : State) (f : Frame) : (s.enqueue f).counts = s.counts := rfl
@[simp] theorem State.enqueue_port (s : State) (f : Frame) : (s.enqueue f).port = { s.port with out := s.port.out ++ [f] } := rfl
@[simp] theorem State.enqueue_pins (s : State) (f : Frame) : (s.enqueue f).pins = s.pins := rfl
@[simp] theorem State.enqueue_pending (s : State) (f : Frame) : (s.enqueue f).pending = s.pending := rfl

/-! ### pend and pendIf -/

/-- Making a notice pending touches the pending set alone, and that only where the kind is enabled (R174). -/
@[simp] theorem State.pend_port (s : State) (k : NoticeKind) : (s.pend k).port =
    { s.port with notices := if s.params.enables.has k then s.port.notices.put true k else s.port.notices } := by
  unfold State.pend; split <;> rfl
@[simp] theorem State.pendIf_port (s : State) (b : Bool) (k : NoticeKind) : (s.pendIf b k).port =
    { s.port with notices := if b && s.params.enables.has k then s.port.notices.put true k else s.port.notices } := by
  unfold State.pendIf; cases b <;> simp
@[simp] theorem State.pend_tb (s : State) (k : NoticeKind) : (s.pend k).tb = s.tb := by unfold State.pend; split <;> rfl
@[simp] theorem State.pend_params (s : State) (k : NoticeKind) : (s.pend k).params = s.params := by unfold State.pend; split <;> rfl
@[simp] theorem State.pend_zones (s : State) (k : NoticeKind) : (s.pend k).zones = s.zones := by unfold State.pend; split <;> rfl
@[simp] theorem State.pend_channelMap (s : State) (k : NoticeKind) : (s.pend k).channelMap = s.channelMap := by unfold State.pend; split <;> rfl
@[simp] theorem State.pend_channels (s : State) (k : NoticeKind) : (s.pend k).channels = s.channels := by unfold State.pend; split <;> rfl
@[simp] theorem State.pend_framer (s : State) (k : NoticeKind) : (s.pend k).framer = s.framer := by unfold State.pend; split <;> rfl
@[simp] theorem State.pend_dir (s : State) (k : NoticeKind) : (s.pend k).dir = s.dir := by unfold State.pend; split <;> rfl
@[simp] theorem State.pend_contexts (s : State) (k : NoticeKind) : (s.pend k).contexts = s.contexts := by unfold State.pend; split <;> rfl
@[simp] theorem State.pend_pool (s : State) (k : NoticeKind) : (s.pend k).pool = s.pool := by unfold State.pend; split <;> rfl
@[simp] theorem State.pend_ring (s : State) (k : NoticeKind) : (s.pend k).ring = s.ring := by unfold State.pend; split <;> rfl
@[simp] theorem State.pend_counts (s : State) (k : NoticeKind) : (s.pend k).counts = s.counts := by unfold State.pend; split <;> rfl
@[simp] theorem State.pend_pins (s : State) (k : NoticeKind) : (s.pend k).pins = s.pins := by unfold State.pend; split <;> rfl
@[simp] theorem State.pend_pending (s : State) (k : NoticeKind) : (s.pend k).pending = s.pending := by unfold State.pend; split <;> rfl
@[simp] theorem State.pendIf_tb (s : State) (b : Bool) (k : NoticeKind) : (s.pendIf b k).tb = s.tb := by unfold State.pendIf; split <;> simp
@[simp] theorem State.pendIf_params (s : State) (b : Bool) (k : NoticeKind) : (s.pendIf b k).params = s.params := by unfold State.pendIf; split <;> simp
@[simp] theorem State.pendIf_zones (s : State) (b : Bool) (k : NoticeKind) : (s.pendIf b k).zones = s.zones := by unfold State.pendIf; split <;> simp
@[simp] theorem State.pendIf_channelMap (s : State) (b : Bool) (k : NoticeKind) : (s.pendIf b k).channelMap = s.channelMap := by unfold State.pendIf; split <;> simp
@[simp] theorem State.pendIf_channels (s : State) (b : Bool) (k : NoticeKind) : (s.pendIf b k).channels = s.channels := by unfold State.pendIf; split <;> simp
@[simp] theorem State.pendIf_framer (s : State) (b : Bool) (k : NoticeKind) : (s.pendIf b k).framer = s.framer := by unfold State.pendIf; split <;> simp
@[simp] theorem State.pendIf_dir (s : State) (b : Bool) (k : NoticeKind) : (s.pendIf b k).dir = s.dir := by unfold State.pendIf; split <;> simp
@[simp] theorem State.pendIf_contexts (s : State) (b : Bool) (k : NoticeKind) : (s.pendIf b k).contexts = s.contexts := by unfold State.pendIf; split <;> simp
@[simp] theorem State.pendIf_pool (s : State) (b : Bool) (k : NoticeKind) : (s.pendIf b k).pool = s.pool := by unfold State.pendIf; split <;> simp
@[simp] theorem State.pendIf_ring (s : State) (b : Bool) (k : NoticeKind) : (s.pendIf b k).ring = s.ring := by unfold State.pendIf; split <;> simp
@[simp] theorem State.pendIf_counts (s : State) (b : Bool) (k : NoticeKind) : (s.pendIf b k).counts = s.counts := by unfold State.pendIf; split <;> simp
@[simp] theorem State.pendIf_pins (s : State) (b : Bool) (k : NoticeKind) : (s.pendIf b k).pins = s.pins := by unfold State.pendIf; split <;> simp
@[simp] theorem State.pendIf_pending (s : State) (b : Bool) (k : NoticeKind) : (s.pendIf b k).pending = s.pending := by unfold State.pendIf; split <;> simp

/-! ### Reading a channel or a context back -/

@[simp] theorem State.chan_setChan (s : State) (n m : Chan) (c : Channel) :
    (s.setChan n c).chan m = if m = n then c else s.chan m := by
  by_cases h : m = n
  · subst h; simp [State.chan, State.setChan]
  · have : (n : Nat) ≠ m := fun e => h (Fin.ext e.symm)
    simp [State.chan, State.setChan, h, this]

@[simp] theorem State.chan_setSeq (s : State) (n m : Chan) (q : Sequencer) :
    (s.setSeq n q).chan m = if m = n then { s.chan n with seq := q } else s.chan m := by
  simp [State.setSeq]

@[simp] theorem State.setChan_setChan (s : State) (n : Chan) (c d : Channel) : (s.setChan n c).setChan n d = s.setChan n d := by
  simp [State.setChan]

@[simp] theorem State.setSeq_setSeq (s : State) (n : Chan) (q r : Sequencer) : (s.setSeq n q).setSeq n r = s.setSeq n r := by
  simp [State.setSeq]

/-- The channels are equal when each of the four is. -/
theorem State.channels_ext {s t : State} (h : ∀ n, s.chan n = t.chan n) : s.channels = t.channels :=
  Vector.ext fun i hi => h ⟨i, hi⟩

@[simp] theorem State.chan_setQueue (s : State) (n m : Chan) (q : List Entry) :
    (s.setQueue n q).chan m = if m = n then { s.chan n with queue := q } else s.chan m := by
  simp [State.setQueue]

@[simp] theorem State.context_setContext (s : State) (k j : Stream) (c : Option Context) :
    (s.setContext k c).context j = if j = k then c else s.context j := by
  by_cases h : j = k
  · subst h; simp [State.context, State.setContext]
  · have : (k : Nat) ≠ j := fun e => h (Fin.ext e.symm)
    simp [State.context, State.setContext, h, this]

@[simp] theorem State.zone_setZone (s : State) (i j : Byte) (e : ZoneEntry) :
    (s.setZone i e).zone j = if j = i then e else s.zone j := by
  by_cases h : j = i
  · subst h; simp [State.zone, State.setZone]
  · have : i.toNat ≠ j.toNat := fun e => h (BitVec.eq_of_toNat_eq e.symm)
    simp [State.zone, State.setZone, h, this]

/-- `chan` looks at the channels only. -/
theorem State.chan_congr {s t : State} (h : t.channels = s.channels) (n : Chan) : t.chan n = s.chan n := by
  simp [State.chan, h]

/-- `context` looks at the contexts only. -/
theorem State.context_congr {s t : State} (h : t.contexts = s.contexts) (k : Stream) : t.context k = s.context k := by
  simp [State.context, h]

@[simp] theorem State.context_setChan (s : State) (n : Chan) (c : Channel) (j : Stream) : (s.setChan n c).context j = s.context j := rfl
@[simp] theorem State.context_setSeq (s : State) (n : Chan) (q : Sequencer) (j : Stream) : (s.setSeq n q).context j = s.context j := rfl
@[simp] theorem State.context_setQueue (s : State) (n : Chan) (q : List Entry) (j : Stream) : (s.setQueue n q).context j = s.context j := rfl
@[simp] theorem State.chan_setContext (s : State) (k : Stream) (c : Option Context) (m : Chan) : (s.setContext k c).chan m = s.chan m := rfl
@[simp] theorem State.chan_setZone (s : State) (i : Byte) (e : ZoneEntry) (m : Chan) : (s.setZone i e).chan m = s.chan m := rfl
@[simp] theorem State.context_setZone (s : State) (i : Byte) (e : ZoneEntry) (j : Stream) : (s.setZone i e).context j = s.context j := rfl
@[simp] theorem State.chan_setDir (s : State) (d : Directives) (m : Chan) : (s.setDir d).chan m = s.chan m := rfl
@[simp] theorem State.context_setDir (s : State) (d : Directives) (j : Stream) : (s.setDir d).context j = s.context j := rfl
@[simp] theorem State.chan_setFramer (s : State) (f : Framer) (m : Chan) : (s.setFramer f).chan m = s.chan m := rfl
@[simp] theorem State.context_setFramer (s : State) (f : Framer) (j : Stream) : (s.setFramer f).context j = s.context j := rfl
@[simp] theorem State.chan_setTb (s : State) (t : Timebase) (m : Chan) : (s.setTb t).chan m = s.chan m := rfl
@[simp] theorem State.context_setTb (s : State) (t : Timebase) (j : Stream) : (s.setTb t).context j = s.context j := rfl
@[simp] theorem State.chan_setPort (s : State) (p : Port) (m : Chan) : (s.setPort p).chan m = s.chan m := rfl
@[simp] theorem State.context_setPort (s : State) (p : Port) (j : Stream) : (s.setPort p).context j = s.context j := rfl
@[simp] theorem State.chan_freeBlocks (s : State) (blocks : List Nat) (m : Chan) : (s.freeBlocks blocks).chan m = s.chan m := rfl
@[simp] theorem State.context_freeBlocks (s : State) (blocks : List Nat) (j : Stream) : (s.freeBlocks blocks).context j = s.context j := rfl
@[simp] theorem State.chan_enqueue (s : State) (f : Frame) (m : Chan) : (s.enqueue f).chan m = s.chan m := rfl
@[simp] theorem State.context_enqueue (s : State) (f : Frame) (j : Stream) : (s.enqueue f).context j = s.context j := rfl
@[simp] theorem State.chan_pend (s : State) (k : NoticeKind) (m : Chan) : (s.pend k).chan m = s.chan m :=
  State.chan_congr (by simp) m
@[simp] theorem State.context_pend (s : State) (k : NoticeKind) (j : Stream) : (s.pend k).context j = s.context j :=
  State.context_congr (by simp) j
@[simp] theorem State.chan_pendIf (s : State) (b : Bool) (k : NoticeKind) (m : Chan) : (s.pendIf b k).chan m = s.chan m :=
  State.chan_congr (by simp) m
@[simp] theorem State.context_pendIf (s : State) (b : Bool) (k : NoticeKind) (j : Stream) : (s.pendIf b k).context j = s.context j :=
  State.context_congr (by simp) j

end Sys2Proof.Machine
end

