-- ==== Sys2Proof/Laws/Ops.lean ====
section
/-! SUPPORT. The shared operations: the Symbol Pool's cells, records, removals. -/

namespace Sys2Proof.Machine

/-! ### Symbol positions -/

theorem cellsRead_cellsWrite_same (a : Nat) (v : Sym) (cs : List (Nat × Sym)) (lo : Nat) (h : cellsWfFrom lo cs = true) :
    cellsRead a (cellsWrite a v cs) = v := by
  induction cs generalizing lo with
  | nil => unfold cellsWrite; split <;> simp_all [cellsRead]
  | cons c rest ih =>
    obtain ⟨b, w⟩ := c
    simp only [cellsWfFrom, Bool.and_eq_true, decide_eq_true_eq] at h
    unfold cellsWrite
    have notListed : ∀ (l : List (Nat × Sym)) (m : Nat), cellsWfFrom m l = true → a < m → cellsRead a l = Pool.unwritten := by
      intro l
      induction l with
      | nil => intros; rfl
      | cons d l ihl =>
        intro m hm ham
        simp only [cellsWfFrom, Bool.and_eq_true, decide_eq_true_eq] at hm
        have : a ≠ d.1 := by omega
        simp only [cellsRead, this, if_false]
        exact ihl _ hm.2 (by omega)
    split
    · split
      · next h1 h2 => rw [notListed ((b, w) :: rest) b (by simp [cellsWfFrom, h]) h1, h2]
      · simp [cellsRead]
    · split
      · split
        · next h1 h2 h3 => rw [notListed rest (b + 1) h.2 (by omega), h3]
        · simp [cellsRead]
      · next h1 h2 => simp only [cellsRead, h2, if_false]; exact ih _ h.2

theorem cellsRead_cellsWrite_other (a x : Nat) (v : Sym) (cs : List (Nat × Sym)) (hx : x ≠ a) :
    cellsRead x (cellsWrite a v cs) = cellsRead x cs := by
  induction cs with
  | nil => unfold cellsWrite; split <;> simp [cellsRead, hx]
  | cons c rest ih =>
    obtain ⟨b, w⟩ := c
    unfold cellsWrite
    split
    · split <;> simp [cellsRead, hx]
    · split
      · next h1 h2 => subst h2; split <;> simp [cellsRead, hx]
      · simp only [cellsRead, ih]

theorem cellsWfFrom_cellsWrite (a : Nat) (v : Sym) (cs : List (Nat × Sym)) (lo : Nat) (ha : lo ≤ a)
    (h : cellsWfFrom lo cs = true) : cellsWfFrom lo (cellsWrite a v cs) = true := by
  induction cs generalizing lo with
  | nil => unfold cellsWrite; split <;> simp_all [cellsWfFrom]
  | cons c rest ih =>
    obtain ⟨b, w⟩ := c
    simp only [cellsWfFrom, Bool.and_eq_true, decide_eq_true_eq] at h
    unfold cellsWrite
    split
    · split
      · simp [cellsWfFrom, h]
      · next h1 h2 =>
        simp only [cellsWfFrom, Bool.and_eq_true, decide_eq_true_eq]
        exact ⟨⟨ha, h2⟩, ⟨⟨by omega, h.1.2⟩, h.2⟩⟩
    · split
      · next h1 h2 =>
        subst h2
        split
        · have weaken : ∀ (l : List (Nat × Sym)) (m k : Nat), k ≤ m → cellsWfFrom m l = true → cellsWfFrom k l = true := by
            intro l m k hk hm
            cases l with
            | nil => rfl
            | cons d l =>
              simp only [cellsWfFrom, Bool.and_eq_true, decide_eq_true_eq] at hm ⊢
              exact ⟨⟨by omega, hm.1.2⟩, hm.2⟩
          exact weaken _ _ _ (by omega) h.2
        · next h3 =>
          simp only [cellsWfFrom, Bool.and_eq_true, decide_eq_true_eq]
          exact ⟨⟨ha, h3⟩, h.2⟩
      · next h1 h2 =>
        simp only [cellsWfFrom, Bool.and_eq_true, decide_eq_true_eq]
        exact ⟨h.1, ih _ (by omega) h.2⟩

theorem cellsWfFrom_cellsWriteAll (a : Nat) (vs : List Sym) (cs : List (Nat × Sym)) (h : cellsWfFrom 0 cs = true) :
    cellsWfFrom 0 (cellsWriteAll a vs cs) = true := by
  induction vs generalizing a cs with
  | nil => exact h
  | cons v vs ih => exact ih _ _ (cellsWfFrom_cellsWrite a v cs 0 (Nat.zero_le a) h)

theorem cellsRead_cellsWriteAll_other (a x : Nat) (vs : List Sym) (cs : List (Nat × Sym))
    (hx : x < a ∨ a + vs.length ≤ x) : cellsRead x (cellsWriteAll a vs cs) = cellsRead x cs := by
  induction vs generalizing a cs with
  | nil => rfl
  | cons v vs ih =>
    simp only [List.length_cons] at hx
    rw [cellsWriteAll, ih (a + 1) _ (by omega), cellsRead_cellsWrite_other a x v cs (by omega)]

theorem cellsRead_cellsWriteAll_inside (a i : Nat) (vs : List Sym) (cs : List (Nat × Sym)) (h : cellsWfFrom 0 cs = true)
    (hi : i < vs.length) : cellsRead (a + i) (cellsWriteAll a vs cs) = vs[i] := by
  induction vs generalizing a i cs with
  | nil => simp at hi
  | cons v vs ih =>
    have hw := cellsWfFrom_cellsWrite a v cs 0 (Nat.zero_le a) h
    cases i with
    | zero =>
      rw [cellsWriteAll, cellsRead_cellsWriteAll_other _ _ _ _ (by omega)]
      exact cellsRead_cellsWrite_same a v cs 0 h
    | succ i =>
      have := ih (a + 1) i (cellsWrite a v cs) hw (by simpa using hi)
      simpa [cellsWriteAll, Nat.add_assoc, Nat.add_comm 1 i] using this

/-! ### Counts -/

theorem countInc_eq (n : Nat) : countInc n = if n < 65535 then n + 1 else n := rfl

theorem countInc_le {n : Nat} (h : n ≤ 65535) : countInc n ≤ 65535 := by
  unfold countInc satInc; split <;> omega

/-! ### Records -/


/-- What writing a record makes of the ring (R154, R157). -/
theorem State.writeRecord_ring (s : State) (b : RecordBody) :
    (s.writeRecord b).ring =
      if b.outcome.isException && s.params.enables.exception then
        { s.ring.append b s.tb.time with mark := some (Mark.update s.ring.mark s.ring.nextSeq) }
      else s.ring.append b s.tb.time := by
  simp [State.writeRecord]

/-- What writing a record makes of the counts (R158). -/
theorem State.writeRecord_counts (s : State) (b : RecordBody) :
    (s.writeRecord b).counts = s.counts.countOutcome b.outcome := by
  simp [State.writeRecord]

@[simp] theorem State.writeRecord_tb (s : State) (b : RecordBody) : (s.writeRecord b).tb = s.tb := by
  simp [State.writeRecord]
@[simp] theorem State.writeRecord_params (s : State) (b : RecordBody) : (s.writeRecord b).params = s.params := by
  simp [State.writeRecord]
@[simp] theorem State.writeRecord_zones (s : State) (b : RecordBody) : (s.writeRecord b).zones = s.zones := by
  simp [State.writeRecord]
@[simp] theorem State.writeRecord_channelMap (s : State) (b : RecordBody) : (s.writeRecord b).channelMap = s.channelMap := by
  simp [State.writeRecord]
@[simp] theorem State.writeRecord_channels (s : State) (b : RecordBody) : (s.writeRecord b).channels = s.channels := by
  simp [State.writeRecord]
@[simp] theorem State.writeRecord_framer (s : State) (b : RecordBody) : (s.writeRecord b).framer = s.framer := by
  simp [State.writeRecord]
@[simp] theorem State.writeRecord_dir (s : State) (b : RecordBody) : (s.writeRecord b).dir = s.dir := by
  simp [State.writeRecord]
@[simp] theorem State.writeRecord_contexts (s : State) (b : RecordBody) : (s.writeRecord b).contexts = s.contexts := by
  simp [State.writeRecord]
@[simp] theorem State.writeRecord_pool (s : State) (b : RecordBody) : (s.writeRecord b).pool = s.pool := by
  simp [State.writeRecord]
@[simp] theorem State.writeRecord_pins (s : State) (b : RecordBody) : (s.writeRecord b).pins = s.pins := by
  simp [State.writeRecord]
@[simp] theorem State.writeRecord_pending (s : State) (b : RecordBody) : (s.writeRecord b).pending = s.pending := by
  simp [State.writeRecord]
/-- Writing an exception record makes the EXCEPTION notice pending where it is enabled (R157). -/
@[simp] theorem State.writeRecord_port (s : State) (b : RecordBody) : (s.writeRecord b).port =
    { s.port with notices :=
        if b.outcome.isException && s.params.enables.exception then s.port.notices.put true .exception
        else s.port.notices } := by
  simp [State.writeRecord, NoticeSet.has]
@[simp] theorem State.chan_writeRecord (s : State) (b : RecordBody) (m : Chan) : (s.writeRecord b).chan m = s.chan m :=
  State.chan_congr (by simp) m
@[simp] theorem State.context_writeRecord (s : State) (b : RecordBody) (j : Stream) :
    (s.writeRecord b).context j = s.context j := State.context_congr (by simp) j

/-! ### Removals -/

@[simp] theorem State.closeContext_tb (s : State) (e : Entry) : (s.closeContext e).tb = s.tb := by
  unfold State.closeContext; split <;> rfl
@[simp] theorem State.closeContext_params (s : State) (e : Entry) : (s.closeContext e).params = s.params := by
  unfold State.closeContext; split <;> rfl
@[simp] theorem State.closeContext_zones (s : State) (e : Entry) : (s.closeContext e).zones = s.zones := by
  unfold State.closeContext; split <;> rfl
@[simp] theorem State.closeContext_channelMap (s : State) (e : Entry) : (s.closeContext e).channelMap = s.channelMap := by
  unfold State.closeContext; split <;> rfl
@[simp] theorem State.closeContext_channels (s : State) (e : Entry) : (s.closeContext e).channels = s.channels := by
  unfold State.closeContext; split <;> rfl
@[simp] theorem State.closeContext_framer (s : State) (e : Entry) : (s.closeContext e).framer = s.framer := by
  unfold State.closeContext; split <;> rfl
@[simp] theorem State.closeContext_dir (s : State) (e : Entry) : (s.closeContext e).dir = s.dir := by
  unfold State.closeContext; split <;> rfl
@[simp] theorem State.closeContext_pool (s : State) (e : Entry) : (s.closeContext e).pool = s.pool := by
  unfold State.closeContext; split <;> rfl
@[simp] theorem State.closeContext_ring (s : State) (e : Entry) : (s.closeContext e).ring = s.ring := by
  unfold State.closeContext; split <;> rfl
@[simp] theorem State.closeContext_counts (s : State) (e : Entry) : (s.closeContext e).counts = s.counts := by
  unfold State.closeContext; split <;> rfl
@[simp] theorem State.closeContext_port (s : State) (e : Entry) : (s.closeContext e).port = s.port := by
  unfold State.closeContext; split <;> rfl
@[simp] theorem State.closeContext_pins (s : State) (e : Entry) : (s.closeContext e).pins = s.pins := by
  unfold State.closeContext; split <;> rfl
@[simp] theorem State.closeContext_pending (s : State) (e : Entry) : (s.closeContext e).pending = s.pending := by
  unfold State.closeContext; split <;> rfl
@[simp] theorem State.chan_closeContext (s : State) (e : Entry) (m : Chan) : (s.closeContext e).chan m = s.chan m :=
  State.chan_congr (by simp) m

theorem State.context_closeContext (s : State) (e : Entry) (k : Stream) :
    (s.closeContext e).context k = if e.state = .assembling ∧ k = e.source then none else s.context k := by
  unfold State.closeContext
  split <;> simp_all

@[simp] theorem retire_tb (n : Chan) (e : Entry) (o : LaunchOutcome) (k : Nat) (s : State) :
    (retire n e o k s).tb = s.tb := by simp [retire]
@[simp] theorem retire_params (n : Chan) (e : Entry) (o : LaunchOutcome) (k : Nat) (s : State) :
    (retire n e o k s).params = s.params := by simp [retire]
@[simp] theorem retire_zones (n : Chan) (e : Entry) (o : LaunchOutcome) (k : Nat) (s : State) :
    (retire n e o k s).zones = s.zones := by simp [retire]
@[simp] theorem retire_channelMap (n : Chan) (e : Entry) (o : LaunchOutcome) (k : Nat) (s : State) :
    (retire n e o k s).channelMap = s.channelMap := by simp [retire]
@[simp] theorem retire_framer (n : Chan) (e : Entry) (o : LaunchOutcome) (k : Nat) (s : State) :
    (retire n e o k s).framer = s.framer := by simp [retire]
@[simp] theorem retire_dir (n : Chan) (e : Entry) (o : LaunchOutcome) (k : Nat) (s : State) :
    (retire n e o k s).dir = s.dir := by simp [retire]
@[simp] theorem retire_pins (n : Chan) (e : Entry) (o : LaunchOutcome) (k : Nat) (s : State) :
    (retire n e o k s).pins = s.pins := by simp [retire]
@[simp] theorem retire_pending (n : Chan) (e : Entry) (o : LaunchOutcome) (k : Nat) (s : State) :
    (retire n e o k s).pending = s.pending := by simp [retire]
/-- A removal touches no more of the port than its exception record's notice. -/
@[simp] theorem retire_port (n : Chan) (e : Entry) (o : LaunchOutcome) (k : Nat) (s : State) :
    (retire n e o k s).port = { s.port with notices :=
      if o.isException && s.params.enables.exception then s.port.notices.put true .exception else s.port.notices } := by
  simp [retire, Entry.record]

/-- A removal takes the entry out of its queue and touches no other channel. -/
@[simp] theorem retire_chan (n : Chan) (e : Entry) (o : LaunchOutcome) (k : Nat) (s : State) (m : Chan) :
    (retire n e o k s).chan m = if m = n then { s.chan n with queue := (s.chan n).queue.erase e } else s.chan m := by
  simp [retire]

/-- A removal returns the chain to the free list's tail and leaves the symbols (R106). -/
@[simp] theorem retire_pool (n : Chan) (e : Entry) (o : LaunchOutcome) (k : Nat) (s : State) :
    (retire n e o k s).pool = { s.pool with free := s.pool.free ++ e.chain } := by
  simp [retire]

/-- A removal counts its outcome (R158). -/
@[simp] theorem retire_counts (n : Chan) (e : Entry) (o : LaunchOutcome) (k : Nat) (s : State) :
    (retire n e o k s).counts = s.counts.countOutcome o := by
  simp [retire, State.writeRecord_counts, Entry.record]

/-- A removal writes its record (R114). -/
theorem retire_ring (n : Chan) (e : Entry) (o : LaunchOutcome) (k : Nat) (s : State) :
    (retire n e o k s).ring = (s.writeRecord (e.record n o k)).ring := by
  simp [retire, State.writeRecord_ring]

/-- A removal of an ASSEMBLING entry frees its context (R103). -/
theorem retire_context (n : Chan) (e : Entry) (o : LaunchOutcome) (k : Nat) (s : State) (j : Stream) :
    (retire n e o k s).context j = if e.state = .assembling ∧ j = e.source then none else s.context j := by
  simp [retire, State.context_closeContext]

/-! ### Loops -/

/-- What holds before and is kept by each turn holds after the loop over channels. -/
theorem forChans_induction (f : Chan → State → State) (P : State → Prop) (h : ∀ n s, P s → P (f n s)) (ns : List Chan) (s : State)
    (hs : P s) : P (forChans f ns s) := by
  induction ns generalizing s with
  | nil => exact hs
  | cons n ns ih => exact ih _ (h n s hs)

theorem retireAll_induction (P : State → Prop) (h : ∀ n e o s, P s → P (retire n e o 0 s)) (n : Chan) (o : LaunchOutcome)
    (es : List Entry) (s : State) (hs : P s) : P (retireAll n o es s) := by
  induction es generalizing s with
  | nil => exact hs
  | cons e es ih => exact ih _ (h n e o s hs)

end Sys2Proof.Machine
end

