-- ==== Sys2Proof/Laws/Events.lean ====
section
/-! SUPPORT. Events: the sending of a notice at an event's end, and the request of a good frame. -/

namespace Sys2Proof.Machine

/-! ### settle -/

theorem settle_of_out {s : State} (h : s.port.out ≠ []) : settle s = s := by
  unfold settle
  rw [if_neg]
  simp [List.isEmpty_iff, h]

theorem settle_of_resetPending {s : State} (h : s.port.resetPending ≠ none) : settle s = s := by
  unfold settle
  rw [if_neg]
  simp [h]

theorem NoticeSet.first?_empty : NoticeSet.empty.first? = none := by decide

/-- A set without a first kind is empty. -/
theorem NoticeSet.first?_eq_none {x : NoticeSet} : x.first? = none ↔ x = NoticeSet.empty := by
  obtain ⟨a, b, c, d, e, f, g⟩ := x
  revert a b c d e f g
  decide

theorem settle_of_noNotice {s : State} (h : s.port.notices = NoticeSet.empty) : settle s = s := by
  unfold settle
  split
  · rw [h, NoticeSet.first?_empty]
  · rfl

theorem settle_of_first {s : State} {k : NoticeKind} (ho : s.port.out = []) (hr : s.port.resetPending = none)
    (hk : s.port.notices.first? = some k) : settle s = sendNotice k s := by
  unfold settle
  rw [if_pos ⟨by simp [ho], hr⟩, hk]

/-- What the end of an event does: nothing, or one notice. -/
theorem settle_cases (s : State) :
    settle s = s ∨ ∃ k, s.port.out = [] ∧ s.port.resetPending = none ∧ s.port.notices.first? = some k ∧
      settle s = sendNotice k s := by
  by_cases ho : s.port.out = []
  · by_cases hr : s.port.resetPending = none
    · cases hk : s.port.notices.first? with
      | none => exact .inl (settle_of_noNotice (NoticeSet.first?_eq_none.mp hk))
      | some k => exact .inr ⟨k, ho, hr, rfl, settle_of_first ho hr hk⟩
    · exact .inl (settle_of_resetPending hr)
  · exact .inl (settle_of_out ho)

@[simp] theorem settle_enqueue (s : State) (f : Frame) : settle (s.enqueue f) = s.enqueue f :=
  settle_of_out (by simp)

@[simp] theorem noticeSent_tb (k : NoticeKind) (s : State) : (noticeSent k s).tb = s.tb := by
  unfold noticeSent; split <;> rfl
@[simp] theorem noticeSent_params (k : NoticeKind) (s : State) : (noticeSent k s).params = s.params := by
  unfold noticeSent; split <;> rfl
@[simp] theorem noticeSent_zones (k : NoticeKind) (s : State) : (noticeSent k s).zones = s.zones := by
  unfold noticeSent; split <;> rfl
@[simp] theorem noticeSent_channelMap (k : NoticeKind) (s : State) : (noticeSent k s).channelMap = s.channelMap := by
  unfold noticeSent; split <;> rfl
@[simp] theorem noticeSent_channels (k : NoticeKind) (s : State) : (noticeSent k s).channels = s.channels := by
  unfold noticeSent; split <;> rfl
@[simp] theorem noticeSent_framer (k : NoticeKind) (s : State) : (noticeSent k s).framer = s.framer := by
  unfold noticeSent; split <;> rfl
@[simp] theorem noticeSent_dir (k : NoticeKind) (s : State) : (noticeSent k s).dir = s.dir := by
  unfold noticeSent; split <;> rfl
@[simp] theorem noticeSent_contexts (k : NoticeKind) (s : State) : (noticeSent k s).contexts = s.contexts := by
  unfold noticeSent; split <;> rfl
@[simp] theorem noticeSent_pool (k : NoticeKind) (s : State) : (noticeSent k s).pool = s.pool := by
  unfold noticeSent; split <;> rfl
@[simp] theorem noticeSent_counts (k : NoticeKind) (s : State) : (noticeSent k s).counts = s.counts := by
  unfold noticeSent; split <;> rfl
@[simp] theorem noticeSent_pins (k : NoticeKind) (s : State) : (noticeSent k s).pins = s.pins := by
  unfold noticeSent; split <;> rfl
@[simp] theorem noticeSent_pending (k : NoticeKind) (s : State) : (noticeSent k s).pending = s.pending := by
  unfold noticeSent; split <;> rfl
@[simp] theorem noticeSent_port (k : NoticeKind) (s : State) : (noticeSent k s).port = s.port := by
  unfold noticeSent; split <;> rfl
@[simp] theorem settle_tb (s : State) : (settle s).tb = s.tb := by
  rcases settle_cases s with h | ⟨k, -, -, -, h⟩ <;> simp [h, sendNotice]
@[simp] theorem settle_params (s : State) : (settle s).params = s.params := by
  rcases settle_cases s with h | ⟨k, -, -, -, h⟩ <;> simp [h, sendNotice]
@[simp] theorem settle_zones (s : State) : (settle s).zones = s.zones := by
  rcases settle_cases s with h | ⟨k, -, -, -, h⟩ <;> simp [h, sendNotice]
@[simp] theorem settle_channelMap (s : State) : (settle s).channelMap = s.channelMap := by
  rcases settle_cases s with h | ⟨k, -, -, -, h⟩ <;> simp [h, sendNotice]
@[simp] theorem settle_channels (s : State) : (settle s).channels = s.channels := by
  rcases settle_cases s with h | ⟨k, -, -, -, h⟩ <;> simp [h, sendNotice]
@[simp] theorem settle_framer (s : State) : (settle s).framer = s.framer := by
  rcases settle_cases s with h | ⟨k, -, -, -, h⟩ <;> simp [h, sendNotice]
@[simp] theorem settle_dir (s : State) : (settle s).dir = s.dir := by
  rcases settle_cases s with h | ⟨k, -, -, -, h⟩ <;> simp [h, sendNotice]
@[simp] theorem settle_contexts (s : State) : (settle s).contexts = s.contexts := by
  rcases settle_cases s with h | ⟨k, -, -, -, h⟩ <;> simp [h, sendNotice]
@[simp] theorem settle_pool (s : State) : (settle s).pool = s.pool := by
  rcases settle_cases s with h | ⟨k, -, -, -, h⟩ <;> simp [h, sendNotice]
@[simp] theorem settle_counts (s : State) : (settle s).counts = s.counts := by
  rcases settle_cases s with h | ⟨k, -, -, -, h⟩ <;> simp [h, sendNotice]
@[simp] theorem settle_pins (s : State) : (settle s).pins = s.pins := by
  rcases settle_cases s with h | ⟨k, -, -, -, h⟩ <;> simp [h, sendNotice]
@[simp] theorem settle_pending (s : State) : (settle s).pending = s.pending := by
  rcases settle_cases s with h | ⟨k, -, -, -, h⟩ <;> simp [h, sendNotice]
@[simp] theorem settle_chan (s : State) (n : Chan) : (settle s).chan n = s.chan n := State.chan_congr (by simp) n
@[simp] theorem settle_context (s : State) (k : Stream) : (settle s).context k = s.context k := State.context_congr (by simp) k
@[simp] theorem settle_records (s : State) : (settle s).ring.records = s.ring.records := by
  rcases settle_cases s with h | ⟨k, -, -, -, h⟩
  · rw [h]
  · rw [h]; unfold sendNotice noticeSent; split <;> rfl
@[simp] theorem settle_nextSeq (s : State) : (settle s).ring.nextSeq = s.ring.nextSeq := by
  rcases settle_cases s with h | ⟨k, -, -, -, h⟩
  · rw [h]
  · rw [h]; unfold sendNotice noticeSent; split <;> rfl
@[simp] theorem settle_resetPending (s : State) : (settle s).port.resetPending = s.port.resetPending := by
  rcases settle_cases s with h | ⟨k, -, -, -, h⟩ <;> simp [h, sendNotice]

/-! ### event -/

theorem event_asserted {s : State} (h : s.pins.resetN = true) (f : State → State) : event f s = .next s := by
  simp [event, h]

theorem event_running {s : State} (h : s.pins.resetN = false) (f : State → State) : event f s = .next (settle (f s)) := by
  simp [event, h]

/-- An event answers a next state, always. -/
theorem event_next (f : State → State) (s : State) : ∃ t, event f s = .next t := ⟨_, rfl⟩

/-! ### Requests -/

/-- A good frame that is accepted runs, and its reply is the newest frame (R165, R166). -/
theorem acceptFrame_of_accepts {s : State} (h : Accepts s) (kind tag : Byte) (run : State → Reply × State) :
    acceptFrame kind tag run s = (run s).2.enqueue ⟨replyKind kind, tag, (run s).1.body⟩ := by
  obtain ⟨-, h2, h3⟩ := h
  have : ¬ 4 ≤ s.port.out.length := by omega
  simp [acceptFrame, h2, Config.outputCapacity, this]

theorem requestEvent_of_accepts {s : State} (h : Accepts s) (tag : Byte) (r : Request) :
    requestEvent tag r s =
      .next ((runRequest r s).2.enqueue ⟨replyKind (requestKind r), tag, (runRequest r s).1.body⟩) := by
  rw [requestEvent, event_running h.1, acceptRequest, acceptFrame_of_accepts h, settle_enqueue]

/-- A good frame that finds four frames in the output queue is an overrun (R165). -/
theorem requestEvent_of_full {s : State} (h1 : s.pins.resetN = false) (h2 : s.port.resetPending = none)
    (h3 : 4 ≤ s.port.out.length) (tag : Byte) (r : Request) :
    requestEvent tag r s = .next { s with counts := { s.counts with overruns := countInc s.counts.overruns } } := by
  rw [requestEvent, event_running h1, settle_of_out]
  · simp [acceptRequest, acceptFrame, h2, Config.outputCapacity, h3]
  · have : s.port.out ≠ [] := by intro e; simp [e] at h3
    simp [acceptRequest, acceptFrame, h2, Config.outputCapacity, h3, this]

/-- A request's kind is assigned, and its reply kind is the kind plus 80h (R166). -/
theorem replyKind_requestKind (r : Request) : replyKind (requestKind r) = requestKind r + 0x80 := by
  cases r <;> rfl

/-- The checks of a request that find no bad field let it run. -/
theorem withFields_of_none {checks : List Bool} (h : firstBad 1 checks = none) (s : State) (go : Reply × State) :
    withFields checks s go = go := by
  simp [withFields, h]

theorem withFields_of_some {checks : List Bool} {i : Nat} (h : firstBad 1 checks = some i) (s : State) (go : Reply × State) :
    withFields checks s go = (badField i, s) := by
  simp [withFields, h]

theorem firstBad_eq_none {checks : List Bool} (i : Nat) : firstBad i checks = none ↔ ∀ b ∈ checks, b = true := by
  induction checks generalizing i with
  | nil => simp [firstBad]
  | cons b bs ih => cases b <;> simp [firstBad, ih]

end Sys2Proof.Machine
end

