-- ==== Sys2Proof/Laws/Sequencers.lean ====
section
/-! SUPPORT. The sequencers' shared operations: what a change of a mute reports, what the end of an active batch
does, and what removals leave. -/

namespace Sys2Proof.Machine

/-! ### Mutes -/

theorem mem_allChans (n : Chan) : n ∈ allChans := by revert n; decide

/-- Two states whose channels agree but at `n` differ in a muted condition exactly when `n` does, the hub's mask being the
same. -/
theorem mutedDiffers_of_seq {s t : State} {n : Chan} (hd : t.dir = s.dir) (ho : ∀ m, m ≠ n → t.chan m = s.chan m) :
    mutedDiffers s t = (((s.chan n).seq.portMute != (t.chan n).seq.portMute) && !s.dir.muteMask.getLsbD n.val) := by
  rw [Bool.eq_iff_iff]
  simp only [mutedDiffers, List.any_eq_true, State.muted, hd]
  constructor
  · rintro ⟨m, -, hm⟩
    by_cases h : m = n
    · subst h
      revert hm
      generalize (s.chan m).seq.portMute = a
      generalize (t.chan m).seq.portMute = b
      generalize s.dir.muteMask.getLsbD m.val = c
      revert a b c
      decide
    · rw [ho m h] at hm
      simp at hm
  · intro h
    refine ⟨n, mem_allChans n, ?_⟩
    revert h
    generalize (s.chan n).seq.portMute = a
    generalize (t.chan n).seq.portMute = b
    generalize s.dir.muteMask.getLsbD n.val = c
    revert a b c
    decide

/-- A new hub mask, the channels being the same, changes a muted condition exactly where a channel without the port's mute
has its bit changed. -/
theorem mutedDiffers_of_mask {s t : State} (h : t.channels = s.channels) :
    mutedDiffers s t = decide (∃ n : Chan, (s.chan n).seq.portMute = false ∧
      s.dir.muteMask.getLsbD n.val ≠ t.dir.muteMask.getLsbD n.val) := by
  rw [Bool.eq_iff_iff, decide_eq_true_iff]
  simp only [mutedDiffers, List.any_eq_true, State.muted, State.chan_congr h]
  constructor
  · rintro ⟨n, _, hn⟩
    refine ⟨n, ?_⟩
    revert hn
    generalize (s.chan n).seq.portMute = a
    generalize s.dir.muteMask.getLsbD n.val = b
    generalize t.dir.muteMask.getLsbD n.val = c
    revert a b c
    decide
  · rintro ⟨n, h1, h2⟩
    exact ⟨n, mem_allChans n, by simpa [h1] using h2⟩

/-- The port's mute of one channel, with its notice (R143). -/
theorem setPortMute_eq (n : Chan) (b : Bool) (s : State) :
    setPortMute n b s = (s.setSeq n { (s.chan n).seq with portMute := b }).pendIf
      (((s.chan n).seq.portMute != b) && !s.dir.muteMask.getLsbD n.val) .channel := by
  have h : mutedDiffers s (s.setSeq n { (s.chan n).seq with portMute := b }) =
      (((s.chan n).seq.portMute != b) && !s.dir.muteMask.getLsbD n.val) := by
    rw [mutedDiffers_of_seq (n := n) (by simp) (by intro m hm; simp [hm])]
    simp
  simp only [setPortMute, noteMuted, h]

/-! ### The end of a batch -/

/-- Entry into IDLE in one update (R140). -/
theorem enterIdle_eq (n : Chan) (s : State) :
    enterIdle n s = (s.setSeq n { (s.chan n).seq with
      state := .idle, dry := false, sent := 0, muteAfter := false
      portMute := (s.chan n).seq.portMute || (s.chan n).seq.muteAfter }).pendIf
        ((s.chan n).seq.muteAfter && !(s.chan n).seq.portMute && !s.dir.muteMask.getLsbD n.val) .channel := by
  unfold enterIdle settleMuteAfter
  by_cases h : (s.chan n).seq.muteAfter = true
  · rw [if_pos (by simpa using h), setPortMute_eq, setMuteAfter]
    simp [h, State.setSeq_setSeq]
  · have h' : (s.chan n).seq.muteAfter = false := by simpa using h
    rw [if_neg (by simp [h'])]
    simp [h', State.pendIf]

/-- Entry into IDLE in the fields of the state. -/
theorem enterIdle_chan (n m : Chan) (s : State) :
    (enterIdle n s).chan m = if m = n then { s.chan n with seq := { (s.chan n).seq with
      state := .idle, dry := false, sent := 0, muteAfter := false
      portMute := (s.chan n).seq.portMute || (s.chan n).seq.muteAfter } } else s.chan m := by
  rw [enterIdle_eq]
  simp

/-- The port's notices but EXCEPTION and CHANNEL are as before. -/
theorem NoticeSet.has_put_of_ne (x : NoticeSet) (b : Bool) {k j : NoticeKind} (h : k ≠ j) : (x.put b j).has k = x.has k := by
  cases k <;> cases j <;> simp_all [NoticeSet.has, NoticeSet.put]

/-- A removal of the active head leaves the contexts (R91). -/
theorem retire_contexts_of_active {n : Chan} {h : Entry} {o : LaunchOutcome} {k : Nat} {s : State} (ha : h.state = .active) :
    (retire n h o k s).contexts = s.contexts := by
  simp [retire, State.closeContext, ha]

theorem retire_channels_of_head {n : Chan} {h : Entry} {rest : List Entry} {o : LaunchOutcome} {k : Nat} {s : State}
    (hq : (s.chan n).queue = h :: rest) :
    (retire n h o k s).channels = s.channels.set n { s.chan n with queue := rest } := by
  simp [retire, hq]

theorem isException_eq (o : LaunchOutcome) : o.isException = decide (o ≠ .launched ∧ o ≠ .launchedDry) := by
  cases o <;> rfl

/-- The ring after one more record (R154, R157). -/
theorem State.writeRecord_ring_eq (s : State) (b : RecordBody) :
    (s.writeRecord b).ring = ⟨(if s.ring.records.length < 64 then s.ring.records else s.ring.records.tail) ++
      [⟨s.ring.nextSeq, b, s.tb.time⟩], s.ring.nextSeq + 1,
      if (decide (b.outcome ≠ .launched ∧ b.outcome ≠ .launchedDry) && s.params.enables.exception) = true then
        some (match s.ring.mark with
          | none => ⟨s.ring.nextSeq, 1⟩
          | some m => ⟨m.first, if m.tally < 255 then m.tally + 1 else m.tally⟩)
      else s.ring.mark⟩ := by
  have hm : Mark.update s.ring.mark s.ring.nextSeq = (match s.ring.mark with
      | none => ⟨s.ring.nextSeq, 1⟩
      | some m => ⟨m.first, if m.tally < 255 then m.tally + 1 else m.tally⟩) := by
    unfold Mark.update
    cases s.ring.mark <;> rfl
  rw [State.writeRecord_ring, isException_eq, hm]
  split <;> simp only [Ring.append, Config.ringCapacity, List.drop_one]

/-- The port after one more record (R157). -/
theorem State.writeRecord_port_eq (s : State) (b : RecordBody) :
    (s.writeRecord b).port = { s.port with notices := { s.port.notices with exception := s.port.notices.exception ||
      (decide (b.outcome ≠ .launched ∧ b.outcome ≠ .launchedDry) && s.params.enables.exception) } } := by
  rw [State.writeRecord_port, isException_eq]
  cases decide (b.outcome ≠ .launched ∧ b.outcome ≠ .launchedDry) && s.params.enables.exception <;> simp [NoticeSet.put]

/-- The end of an active batch with the lines left as they are (R131, R139, R140, R143, R157). -/
theorem endActive_batchEnded {n : Chan} {s : State} {h : Entry} {rest : List Entry} (o : LaunchOutcome)
    (hq : (s.chan n).queue = h :: rest) (ha : h.state = .active) :
    BatchEnded s n h rest o (s.chan n).seq.lines (s.chan n).seq.strobe (endActive n o s) := by
  have hr : retireActive n o s = retire n h o (s.chan n).seq.sent s := by simp [retireActive, hq]
  unfold BatchEnded endActive
  rw [hr, enterIdle_eq]
  have hp : (retire n h o (s.chan n).seq.sent s).port = (s.writeRecord (h.record n o (s.chan n).seq.sent)).port := by
    simp [Entry.record]
  apply State.ext <;> simp [-retire_port, batchEnded, retire_contexts_of_active ha, retire_channels_of_head hq]
  · simp [hq]
  · rw [retire_ring, State.writeRecord_ring_eq]
    cases o <;> cases s.ring.mark <;> simp [Entry.record]
  · rw [hp, State.writeRecord_port_eq]
    simp [Entry.record, NoticeSet.has]
    cases h1 : (s.chan n).seq.muteAfter <;> cases h2 : (s.chan n).seq.portMute <;> cases h3 : s.dir.muteMask[n.val] <;>
      by_cases h4 : s.params.enables.channel = true <;> simp [NoticeSet.put, h4] <;> cases o <;> rfl

/-- A cut: the same, with the lines at rest and the strobe withdrawn (R144). -/
theorem cut_batchEnded {n : Chan} {s : State} {h : Entry} {rest : List Entry} (o : LaunchOutcome)
    (hq : (s.chan n).queue = h :: rest) (ha : h.state = .active) : BatchEnded s n h rest o 0 none (cut n o s) := by
  have hr : restLines n s = s.setSeq n { (s.chan n).seq with lines := 0, strobe := none } := rfl
  have hb := endActive_batchEnded (n := n) (s := restLines n s) (rest := rest) (h := h) o (by simp [hr, hq]) ha
  unfold BatchEnded cut at *
  rw [hb, hr]
  simp only [batchEnded]
  apply State.ext <;> simp
  rfl

/-! ### Removals, one after another -/

/-- The ring, the counts and the port depend on no more of the state than a record needs (R154, R157, R158). -/
theorem State.writeRecord_congr {s t : State} (b : RecordBody) (h1 : t.tb = s.tb) (h2 : t.params = s.params)
    (h3 : t.ring = s.ring) (h4 : t.counts = s.counts) (h5 : t.port = s.port) :
    (t.writeRecord b).ring = (s.writeRecord b).ring ∧ (t.writeRecord b).counts = (s.writeRecord b).counts ∧
    (t.writeRecord b).port = (s.writeRecord b).port := by
  simp only [State.writeRecord_ring, State.writeRecord_counts, State.writeRecord_port, h1, h2, h3, h4, h5, and_self]

/-- Removals leave in the ring, the counts and the port what their records leave (R114, R125, R128). -/
theorem retireAll_records (n : Chan) (o : LaunchOutcome) (es : List Entry) (s : State) :
    (retireAll n o es s).ring = (writeRecords (es.map (fun e => e.record n o 0)) s).ring ∧
    (retireAll n o es s).counts = (writeRecords (es.map (fun e => e.record n o 0)) s).counts ∧
    (retireAll n o es s).port = (writeRecords (es.map (fun e => e.record n o 0)) s).port := by
  suffices H : ∀ t u : State, t.tb = u.tb → t.params = u.params → t.ring = u.ring → t.counts = u.counts → t.port = u.port →
      (retireAll n o es t).ring = (writeRecords (es.map (fun e => e.record n o 0)) u).ring ∧
      (retireAll n o es t).counts = (writeRecords (es.map (fun e => e.record n o 0)) u).counts ∧
      (retireAll n o es t).port = (writeRecords (es.map (fun e => e.record n o 0)) u).port from
    H s s rfl rfl rfl rfl rfl
  induction es with
  | nil => exact fun t u _ _ h3 h4 h5 => ⟨h3, h4, h5⟩
  | cons e es ih =>
    intro t u h1 h2 h3 h4 h5
    obtain ⟨r, c, p⟩ := State.writeRecord_congr (e.record n o 0) h1 h2 h3 h4 h5
    refine ih (retire n e o 0 t) (u.writeRecord (e.record n o 0)) (by simpa using h1) (by simpa using h2) ?_ ?_ ?_
    · rw [retire_ring, r]
    · rw [← c, retire_counts, State.writeRecord_counts]; rfl
    · rw [← p, retire_port, State.writeRecord_port]; rfl

/-- The end of the batch of an OPEN context is the removal of its entry, on every stream (R94, R99). -/
theorem endAssembly_of_entry {k : Stream} {c : Context} {e : Entry} {s : State} (o : LaunchOutcome)
    (h : contextEntry c s = some e) (hk : e.source = k) :
    endAssembly k c o s = redecide c.chan (retire c.chan e o 0 s) := by
  have ha : e.state = .assembling := by
    have := List.find?_some h
    simp only [decide_eq_true_eq] at this
    exact this.2
  subst hk
  unfold endAssembly
  rw [h]
  simp [retire, State.closeContext, ha, State.setContext]

end Sys2Proof.Machine
end

