-- ==== Sys2Proof/Laws/Clock.lean ====
section
/-! SUPPORT. Site-time arithmetic, the Timebase's tests, and the framer's entry into HUNT, in the terms of the statements. -/

namespace Sys2Proof.Machine

/-- The lock window as two bounds (R6). -/
theorem inWindow_iff (x : Int) (w : Nat) : inWindow x w = true ↔ -(w : Int) ≤ x ∧ x ≤ w := by
  simp only [inWindow, decide_eq_true_eq]
  omega

/-- The slew limit as a clamp (R10). -/
theorem clampSlew_eq (x : Int) (w : Nat) : clampSlew x w = max (-(w : Int)) (min (w : Int) x) := by
  unfold clampSlew
  split
  · omega
  · split <;> omega

/-- A correction of nothing leaves an offset in range as it is. -/
theorem correct_zero (x : SiteTime) (h : x.offset < 10000000) : x.correct 0 = x := by
  unfold SiteTime.correct SiteTime.normalise
  rw [if_neg (by omega), if_neg (by omega)]
  obtain ⟨a, b⟩ := x
  simp

/-- One borrow or one carry brings the offset into its range. -/
theorem normalise_offset (a : BitVec 32) (q : Int) (h1 : -10000000 ≤ q) (h2 : q < 20000000) :
    (SiteTime.normalise a q).offset < 10000000 := by
  unfold SiteTime.normalise
  split
  · simp only; omega
  · split <;> simp only <;> omega

theorem later_offset (x : SiteTime) (n : Nat) : (x.later n).offset < 10000000 := Nat.mod_lt _ (by decide)

theorem due_iff (x now : SiteTime) : x.due now = true ↔ x.diff now ≤ 0 := by simp [SiteTime.due]

theorem before_iff (x y : SiteTime) : x.before y = true ↔ x.diff y < 0 := by simp [SiteTime.before]

/-- Every sequencer is IDLE or DISABLED (R14). -/
theorem allIdle_iff (s : State) :
    s.allIdle = true ↔ ∀ n : Chan, (s.chan n).seq.state = .idle ∨ (s.chan n).seq.state = .disabled := by
  have h : ∀ q : SeqState, (!q.keyed) = true ↔ q = .idle ∨ q = .disabled := by intro q; cases q <;> simp [SeqState.keyed]
  simp only [State.allIdle, List.all_eq_true, h]
  exact ⟨fun x n => x n (mem_allChans n), fun x n _ => x n⟩

/-- The end of an event that replaces the Timebase (R20). -/
theorem settle_changeTimebase (s : State) (t : Timebase) : settle (changeTimebase t s) = timebaseEvent s t := by
  have h : timebaseChanged s.tb t =
      decide (t.state ≠ s.tb.state ∨ (s.tb.valid = false ∧ t.valid = true) ∨ t.stepPending ≠ s.tb.stepPending) := by
    unfold timebaseChanged
    generalize t.valid = a
    generalize s.tb.valid = b
    generalize t.stepPending = c
    generalize s.tb.stepPending = d
    generalize t.state = e
    generalize s.tb.state = f
    cases a <;> cases b <;> cases c <;> cases d <;> cases e <;> cases f <;> decide
  simp only [changeTimebase, timebaseEvent, State.setTb, h]

/-- The marks of an edge are those of the statements (R4, R8, log 29). -/
theorem markPassed_eq (s : State) : markPassed s = keysPassed s.tb.time s := by
  unfold markPassed keysPassed
  have h : Entry.markPassed s.tb.time =
      fun e => if e.state ≠ .active ∧ e.tk.diff s.tb.time ≤ 0 then { e with passed := true } else e := by
    funext e
    simp [Entry.markPassed, due_iff]
  rw [h]

theorem keysPassed_chan (x : SiteTime) (s : State) (n : Chan) :
    (keysPassed x s).chan n = { s.chan n with queue := (s.chan n).queue.map (fun e =>
      if e.state ≠ .active ∧ e.tk.diff x ≤ 0 then { e with passed := true } else e) } := by
  simp [keysPassed, State.chan]

/-- The end of an edge that replaces the Timebase and has passed key instants (R4, R20). -/
theorem settle_markPassed (s : State) (t : Timebase) :
    settle (markPassed (changeTimebase t s)) = timebaseEvent (keysPassed t.time s) t := by
  have h : markPassed (changeTimebase t s) = changeTimebase t (keysPassed t.time s) := by
    rw [markPassed_eq]
    apply State.ext <;> simp [changeTimebase, keysPassed, State.setTb]
  rw [h, settle_changeTimebase]

/-- Entry into HUNT in one update, with what it reports (R59, R70, R87). -/
theorem enterHunt_eq (s : State) :
    enterHunt s = (((State.pendIf { s with
        framer := { s.framer with sync := .hunt, confirm := 0, miss := 0, interval := 0 }
        dir := ⟨[], 0, none, 0, false, 0, s.dir.supplied⟩ }
      (decide (∃ n : Chan, s.dir.muteMask.getLsbD n.val = true ∧ (s.chan n).seq.portMute = false)) .channel).pendIf
      (decide (s.dir.muteMask ≠ 0 ∨ s.dir.hold = true ∨ s.dir.dryMask ≠ 0)) .directive).pend .link) := by
  unfold enterHunt linkLost clearLatched setMuteMask noteMuted
  have h : ∀ d : Directives, d.latched = decide (d.muteMask ≠ 0 ∨ d.hold = true ∨ d.dryMask ≠ 0) := by
    intro d
    simp [Directives.latched]
    rw [Bool.or_assoc]
  simp only [h, State.setFramer_dir]
  rw [mutedDiffers_of_mask (by simp)]
  apply State.ext <;> simp
  simp [and_comm]

end Sys2Proof.Machine
end

