-- ==== Sys2Proof/Laws/PerInstr.lean ====
section
/-! SUPPORT. Facts about each command as it is written, constructor by constructor. -/

namespace Sys2Proof.Laws.RequestKinds

open Sys2Proof Sys2Proof.Machine

/-- The request a command stands for, if it stands for one, has a kind that is assigned and lies below 40h (R166). -/
def Statement (i : Instr) : Prop :=
  ∀ tag r, requestOf i = some (tag, r) → kindAssigned (requestKind r) = true ∧ (requestKind r).toNat < 0x40

/-- Every request's kind is assigned and below 40h. -/
theorem requestKind_assigned (r : Request) : kindAssigned (requestKind r) = true ∧ (requestKind r).toNat < 0x40 := by
  cases r <;> exact ⟨rfl, of_decide_eq_true rfl⟩

theorem ppsEdge : Statement .ppsEdge := fun _ r _ => requestKind_assigned r
theorem midSecondCheck : Statement .midSecondCheck := fun _ r _ => requestKind_assigned r
theorem fullReset (cause : FullResetCause) : Statement (.fullReset cause) := fun _ r _ => requestKind_assigned r
theorem resetNRelease (straps : Straps) : Statement (.resetNRelease straps) := fun _ r _ => requestKind_assigned r
theorem clearingComplete : Statement .clearingComplete := fun _ r _ => requestKind_assigned r
theorem superframeEnd (searched : Nat) (frame : Superframe) : Statement (.superframeEnd searched frame) := fun _ r _ => requestKind_assigned r
theorem uplinkIntervalExpiry : Statement .uplinkIntervalExpiry := fun _ r _ => requestKind_assigned r
theorem controlByteArrival (byte : Byte) (framingError : Bool) : Statement (.controlByteArrival byte framingError) := fun _ r _ => requestKind_assigned r
theorem interByteTimeout : Statement .interByteTimeout := fun _ r _ => requestKind_assigned r
theorem unknownKind (kind tag : Byte) (body : List Byte) : Statement (.unknownKind kind tag body) := fun _ r _ => requestKind_assigned r
theorem identify (tag : Byte) : Statement (.identify tag) := fun _ r _ => requestKind_assigned r
theorem getParameters (tag : Byte) : Statement (.getParameters tag) := fun _ r _ => requestKind_assigned r
theorem setParameters (tag : Byte) (p : ParamFields) : Statement (.setParameters tag p) := fun _ r _ => requestKind_assigned r
theorem getChannel (tag channel : Byte) : Statement (.getChannel tag channel) := fun _ r _ => requestKind_assigned r
theorem setChannel (tag channel : Byte) (settings : SettingsFields) : Statement (.setChannel tag channel settings) := fun _ r _ => requestKind_assigned r
theorem readZones (tag first count : Byte) : Statement (.readZones tag first count) := fun _ r _ => requestKind_assigned r
theorem writeZones (tag first count : Byte) (entries : List Byte) : Statement (.writeZones tag first count entries) := fun _ r _ => requestKind_assigned r
theorem readChannelMap (tag : Byte) : Statement (.readChannelMap tag) := fun _ r _ => requestKind_assigned r
theorem writeChannelMap (tag : Byte) (entries : Vector Byte 16) : Statement (.writeChannelMap tag entries) := fun _ r _ => requestKind_assigned r
theorem setTime (tag : Byte) (second : BitVec 32) : Statement (.setTime tag second) := fun _ r _ => requestKind_assigned r
theorem readTime (tag : Byte) : Statement (.readTime tag) := fun _ r _ => requestKind_assigned r
theorem muteNow (tag mask : Byte) : Statement (.muteNow tag mask) := fun _ r _ => requestKind_assigned r
theorem muteAfter (tag mask : Byte) : Statement (.muteAfter tag mask) := fun _ r _ => requestKind_assigned r
theorem unmute (tag mask : Byte) : Statement (.unmute tag mask) := fun _ r _ => requestKind_assigned r
theorem flush (tag mask : Byte) : Statement (.flush tag mask) := fun _ r _ => requestKind_assigned r
theorem cancel (tag : Byte) (batch : BitVec 16) : Statement (.cancel tag batch) := fun _ r _ => requestKind_assigned r
theorem queryQueue (tag channel : Byte) : Statement (.queryQueue tag channel) := fun _ r _ => requestKind_assigned r
theorem injectHeader (tag : Byte) (header : Header) : Statement (.injectHeader tag header) := fun _ r _ => requestKind_assigned r
theorem injectData (tag : Byte) (batch : BitVec 16) (first count : Byte) (segments : List Byte) : Statement (.injectData tag batch first count segments) := fun _ r _ => requestKind_assigned r
theorem fetchRecords (tag : Byte) (start : BitVec 16) (maximum : Byte) : Statement (.fetchRecords tag start maximum) := fun _ r _ => requestKind_assigned r
theorem readCounts (tag : Byte) : Statement (.readCounts tag) := fun _ r _ => requestKind_assigned r
theorem clearCounts (tag : Byte) : Statement (.clearCounts tag) := fun _ r _ => requestKind_assigned r
theorem readLinkStatus (tag clear : Byte) : Statement (.readLinkStatus tag clear) := fun _ r _ => requestKind_assigned r
theorem setReplyWord (tag : Byte) (word : DirWord) : Statement (.setReplyWord tag word) := fun _ r _ => requestKind_assigned r
theorem resetFull (tag : Byte) : Statement (.resetFull tag) := fun _ r _ => requestKind_assigned r
theorem resetControl (tag : Byte) : Statement (.resetControl tag) := fun _ r _ => requestKind_assigned r
theorem chain (tag stop count : Byte) (subs : List Byte) : Statement (.chain tag stop count subs) := fun _ r _ => requestKind_assigned r
theorem frameTransmitted (straps : Option Straps) : Statement (.frameTransmitted straps) := fun _ r _ => requestKind_assigned r
theorem controlReset : Statement .controlReset := fun _ r _ => requestKind_assigned r
theorem keyInstant (n : Chan) : Statement (.keyInstant n) := fun _ r _ => requestKind_assigned r
theorem holdKeyInstant (n : Chan) : Statement (.holdKeyInstant n) := fun _ r _ => requestKind_assigned r
theorem symbolInstant (n : Chan) : Statement (.symbolInstant n) := fun _ r _ => requestKind_assigned r
theorem strobeWithdrawal (n : Chan) : Statement (.strobeWithdrawal n) := fun _ r _ => requestKind_assigned r
theorem tailStart (n : Chan) : Statement (.tailStart n) := fun _ r _ => requestKind_assigned r
theorem endOfAirtime (n : Chan) : Statement (.endOfAirtime n) := fun _ r _ => requestKind_assigned r
theorem exciterFaultAssert (n : Chan) : Statement (.exciterFaultAssert n) := fun _ r _ => requestKind_assigned r
theorem exciterFaultClear (n : Chan) : Statement (.exciterFaultClear n) := fun _ r _ => requestKind_assigned r
theorem pwrwarnAssert : Statement .pwrwarnAssert := fun _ r _ => requestKind_assigned r
theorem pwrwarnRelease : Statement .pwrwarnRelease := fun _ r _ => requestKind_assigned r
theorem refclkTick : Statement .refclkTick := fun _ r _ => requestKind_assigned r
theorem storageDisturbance (zone : Byte) (bits : List Nat) : Statement (.storageDisturbance zone bits) := fun _ r _ => requestKind_assigned r

end Sys2Proof.Laws.RequestKinds
end

