-- ==== Sys2Proof/Tests/Slice0.lean ====
section
/-! SUPPORT. Tests: the WellFormed checks, the spec's worked values, each command once, and for every statement with hypotheses a
state and operands that meet them. -/

namespace Sys2Proof.Machine.Tests

set_option Elab.async false

/-! ### WellFormed refuses -/

theorem test_illFormed_assignedKind : Instr.wellFormed (.unknownKind 0x20 0 []) = false := by decide

theorem test_illFormed_unknownKindBody : Instr.wellFormed (.unknownKind 0x77 0 (List.replicate 1025 0)) = false := by
  decide +kernel

theorem test_illFormed_writeZones : Instr.wellFormed (.writeZones 0 0 1 (List.replicate 1023 0)) = false := by
  decide +kernel

theorem test_illFormed_injectData : Instr.wellFormed (.injectData 0 0 0 1 (List.replicate 1021 0)) = false := by
  decide +kernel

theorem test_illFormed_chain : Instr.wellFormed (.chain 0 0 1 (List.replicate 1023 0)) = false := by
  decide +kernel

theorem test_illFormed_disturbanceEmpty : Instr.wellFormed (.storageDisturbance 0 []) = false := by decide

theorem test_illFormed_disturbanceNotRising : Instr.wellFormed (.storageDisturbance 0 [3, 3]) = false := by decide

theorem test_wellFormed_boundaries : Instr.wellFormed (.unknownKind 0x77 0 []) = true ∧
    Instr.wellFormed (.storageDisturbance 0 [3, 4]) = true := by decide

/-! ### States for the tests -/

/-- A time well inside a second. -/
def now : SiteTime := ⟨1000, 2000000⟩

def settings : Settings := ⟨true, .r3200, 0, 50000, 3125, 200000, false⟩

/-- A batch of `n` symbols that keys `ahead` ticks after `now`. -/
def entry (tag : BitVec 16) (state : EntryState) (ahead n : Nat) (chain : List Nat) : Entry where
  tag := tag
  zone := 0
  priority := 1
  source := 8
  state := state
  t := now.later (ahead + 50000)
  tk := now.later ahead
  tend := now.later (ahead + 50000 + n * 3125 + 3125)
  n := n
  rate := .r3200
  received := if state = .assembling then 0 else n
  chain := chain
  passed := false

def seq (state : SeqState) (sent : Nat) : Sequencer := ⟨state, false, false, false, false, sent, 0, none⟩

def chan (state : SeqState) (sent : Nat) (queue : List Entry) : Channel := ⟨settings, queue, seq state sent⟩

def zones : ZoneMap := ⟨Vector.replicate 256 ⟨⟨true, 100⟩, []⟩, true, none, 0, none⟩

def map4 : Vector (Option Chan) 16 := ((((Vector.replicate 16 none).set 0 (some 0)).set 1 (some 1)).set 2 (some 2)).set 3 (some 3)

/-- LOCKED with time valid at `now`, the Zone Map ready, logical channels 0 to 3 mapped, channel 0 as given, the others IDLE. -/
def live (c : Channel) : State := { State.reset with
  tb := { Timebase.resetValue with time := now, state := .locked, valid := true, edgeSeen := true, nextCheck := ⟨1000, 5000000⟩ }
  zones := zones
  channelMap := map4
  channels := (Vector.replicate 4 (chan .idle 0 [])).set 0 c }

def idle : State := live (chan .idle 0 [])

def withTime (x : SiteTime) (s : State) : State := { s with tb := { s.tb with time := x } }

def withTb (t : TimebaseState) (s : State) : State := { s with tb := { s.tb with state := t } }

/-- The state that a command leaves; no command of the table stops. -/
def next (o : Host.Outcome State Fault Refusal) : State :=
  match o with
  | .next t => t
  | .fault f => nomatch f
  | .refused _ => State.reset

/-- The newest frame that waits. -/
def reply (s : State) : Option Frame := s.port.out.getLast?

/-- The results of the records, oldest first. -/
def outcomes (s : State) : List LaunchOutcome := s.ring.records.map (fun r => r.body.outcome)

/-! ### The spec's worked values -/

theorem test_check_sequence : crc16 [0x31, 0x32, 0x33, 0x34, 0x35, 0x36, 0x37, 0x38, 0x39] = 0x29B1 := by decide +kernel

theorem test_symbol_order : symbolsOf 0xC6 = [3, 0, 1, 2] := by decide

/-- Section 3.7. -/
theorem test_launch_basic : launchInstants 1000000 2500000 6000 .r3200 (-12340) ⟨true, .r3200, 37500, 50000, 3125, 12500, false⟩ =
    ⟨⟨1000000, 2450160⟩, ⟨1000000, 2400160⟩, ⟨1000002, 1203285⟩⟩ := by decide +kernel

/-- Section 3.8. -/
theorem test_launch_borrow : launchInstants 1000000 20000 6000 .r3200 (-12340) ⟨true, .r3200, 37500, 50000, 3125, 12500, false⟩ =
    ⟨⟨999999, 9970160⟩, ⟨999999, 9920160⟩, ⟨1000001, 8723285⟩⟩ := by decide +kernel

theorem test_launch_keyBorrow : launchInstants 1000000 60000 6000 .r3200 (-12340) ⟨true, .r3200, 37500, 50000, 3125, 12500, false⟩ =
    ⟨⟨1000000, 10160⟩, ⟨999999, 9960160⟩, ⟨1000001, 8763285⟩⟩ := by decide +kernel

theorem test_launch_carryAndBorrow : launchInstants 1000000 9998000 64 .r3200 4500 ⟨true, .r3200, 0, 20000, 3125, 0, false⟩ =
    ⟨⟨1000001, 2500⟩, ⟨1000000, 9982500⟩, ⟨1000001, 205625⟩⟩ := by decide +kernel

/-- Section 3.9. -/
theorem test_launch_longest : launchInstants 2000000 9500000 8192 .r1600 0 ⟨true, .r1600, 41200, 30000, 6250, 0, false⟩ =
    ⟨⟨2000000, 9458800⟩, ⟨2000000, 9428800⟩, ⟨2000006, 665050⟩⟩ := by decide +kernel

/-- Section 3.10: the wrap, and the two intervals that intersect across it. -/
theorem test_launch_wrap : launchInstants 4294967295 8000000 1000 .r3200 (-12340) ⟨true, .r3200, 37500, 50000, 3125, 12500, false⟩ =
    ⟨⟨4294967295, 7950160⟩, ⟨4294967295, 7900160⟩, ⟨0, 1078285⟩⟩ ∧
    intersects ⟨4294967295, 7900160⟩ ⟨0, 1078285⟩ ⟨4294967295, 9920160⟩ ⟨0, 3098285⟩ = true := by decide +kernel

/-- Section 3.7: the window checks. -/
theorem test_windows :
    windowCheck ⟨1000000, 2450160⟩ ⟨999970, 2450160⟩ 50000 Params.resetValue = none ∧
    windowCheck ⟨1000000, 2450160⟩ ⟨999970, 2450159⟩ 50000 Params.resetValue = some .tooEarly ∧
    windowCheck ⟨1000000, 2450160⟩ ⟨1000000, 2350160⟩ 50000 Params.resetValue = none ∧
    windowCheck ⟨1000000, 2450160⟩ ⟨1000000, 2360000⟩ 50000 Params.resetValue = some .late := by decide +kernel

/-- Section 1.9: edges 1, 2, 4 and 9. -/
theorem test_ppsEdge_setTime :
    (next (exec .ppsEdge { State.reset with tb := { Timebase.resetValue with time := ⟨0, 3721400⟩, pendingSet := some 1000000 } })).tb =
      ⟨⟨1000000, 0⟩, .acquire, true, none, 0, 0, 0, false, 0, 3721400, true, ⟨1000000, 5000000⟩⟩ := by decide +kernel

theorem test_ppsEdge_acquire :
    (next (exec .ppsEdge (withTime ⟨1000000, 9999988⟩ (withTb .acquire idle)))).tb.time = ⟨1000001, 0⟩ ∧
    (next (exec .ppsEdge (withTime ⟨1000003, 31⟩ (withTb .acquire idle)))).tb.time = ⟨1000003, 0⟩ ∧
    (next (exec .ppsEdge (withTime ⟨1000003, 31⟩ (withTb .acquire idle)))).tb.good = 0 := by decide +kernel

theorem test_ppsEdge_locked : (next (exec .ppsEdge (withTime ⟨1000008, 9⟩ idle))).tb.time = ⟨1000008, 5⟩ := by decide +kernel

theorem test_midSecondCheck_noEdge :
    (next (exec .midSecondCheck (withTime ⟨1000, 5000000⟩ { idle with tb := { idle.tb with edgeSeen := false } }))).tb.state = .holdover := by
  decide +kernel

/-! ### Each command once -/

theorem test_fullReset : (next (exec (.fullReset .resetN) idle)).pins.resetN = true ∧
    (next (exec (.fullReset .resetN) idle)).tb = Timebase.resetValue := by decide +kernel

theorem test_resetNRelease :
    (next (exec (.resetNRelease ⟨true, false⟩) (next (exec (.fullReset .resetN) idle)))).port.lineRate = .b460800 := by decide +kernel

theorem test_clearingComplete :
    (next (exec .clearingComplete { State.reset with zones := { ZoneMap.resetValue with clearing := some 25600 } })).zones.ready = true ∧
    reply (next (exec .clearingComplete { State.reset with zones := { ZoneMap.resetValue with clearing := some 25600 } })) =
      some ⟨0xC5, 0, [1, 0, 0, 0, 0, 0]⟩ := by decide +kernel

/-- Superframe number 17 with an IDLE word and four empty slots. -/
def goodFrame : Superframe := ⟨0x6B3C, 17, 0, 0, Vector.replicate 4 (Vector.replicate 18 0), 0x0D38⟩

theorem crc16_append (a b : List Byte) : crc16 (a ++ b) = b.foldl crcByte (crc16 a) := by simp [crc16]

/-- Its 78 covered bytes leave the check value, computed 26 bytes at a time. -/
theorem test_goodFrame_check : crc16 (coveredBytes goodFrame) = goodFrame.check := by
  have h : coveredBytes goodFrame = ((17 : Byte) :: List.replicate 25 0) ++ List.replicate 26 0 ++ List.replicate 26 0 := by
    decide +kernel
  have h1 : crc16 ((17 : Byte) :: List.replicate 25 0) = 0xFB75 := by decide +kernel
  have h2 : (List.replicate 26 (0 : Byte)).foldl crcByte 0xFB75 = 0xF922 := by decide +kernel
  have h3 : (List.replicate 26 (0 : Byte)).foldl crcByte 0xF922 = goodFrame.check := by decide +kernel
  rw [h, crc16_append, crc16_append, h1, h2, h3]

def withSync (y : SyncState) (s : State) : State := { s with framer := { s.framer with sync := y } }

theorem test_superframeEnd_hunt (f : Superframe) (h1 : f.sync = 0x6B3C) (h2 : crc16 (coveredBytes f) = f.check) :
    (next (exec (.superframeEnd 7 f) idle)).framer.sync = .confirm ∧
      (next (exec (.superframeEnd 7 f) idle)).framer.expected = 663 := by
  have h3 : syncPresent f = true := by simp [syncPresent, h1, Config.downlinkSync]
  have h4 : checkGood f = true := by simp [checkGood, h2]
  have h5 : exec (.superframeEnd 7 f) idle = .next (settle (superframeEnd 7 f idle)) := event_running rfl _
  have h6 : idle.framer = Framer.resetValue := rfl
  rw [h5]
  simp [next, superframeEnd, judgeHunt, h3, h4, h6, Framer.resetValue, advanceTo, Config.superframeBits]

theorem test_uplinkIntervalExpiry :
    (next (exec .uplinkIntervalExpiry idle)).framer.uplink.map (fun u => (u.start, u.bytes.take 6)) =
      some (656, [0xD2, 0x5A, 0, 0, 0, 0x0A]) := by decide +kernel

theorem test_controlByteArrival : (next (exec (.controlByteArrival 0xA5 false) idle)).port.frame = some [0xA5] ∧
    (next (exec (.controlByteArrival 0xA5 false) idle)).port.timeout = some ⟨1000, 2100000⟩ := by decide +kernel

theorem test_interByteTimeout :
    let s := { idle with port := { idle.port with frame := some [0xA5], timeout := some now } }
    (next (exec .interByteTimeout s)).port.frame = none ∧ (next (exec .interByteTimeout s)).counts.portErrors = 1 := by decide +kernel

theorem test_unknownKind : reply (next (exec (.unknownKind 0x77 5 [1]) idle)) = some ⟨0xFF, 5, [1]⟩ := by decide +kernel

theorem test_identify : reply (next (exec (.identify 9) idle)) =
    some ⟨0x81, 9, [0, 0x5C, 4, 2, 4, 16, 1, 0, 16, 1, 0x80, 1, 0, 9, 64, 4, 4, 0, 8]⟩ := by decide +kernel

theorem test_getParameters : reply (next (exec (.getParameters 9) idle)) =
    some ⟨0x82, 9, [0, 0, 0, 0, 0, 0, 20, 4, 1, 44, 0, 0, 0xC3, 0x50, 30, 127]⟩ := by decide +kernel

def paramFields : ParamFields := ⟨37, 4, 0, 20, 4, 300, 50000, 30, 127⟩

theorem test_setParameters : (next (exec (.setParameters 1 paramFields) idle)).params.siteAddress = 37 ∧
    reply (next (exec (.setParameters 1 { paramFields with window := 501 }) idle)) = some ⟨0x83, 1, [3, 4]⟩ := by decide +kernel

theorem test_getChannel : reply (next (exec (.getChannel 1 4) idle)) = some ⟨0x88, 1, [3, 1]⟩ := by decide +kernel

def settingsFields : SettingsFields := ⟨1, 1, 37500, 50000, 3125, 12500, 0⟩

theorem test_setChannel : ((next (exec (.setChannel 1 2 settingsFields) idle)).chan 2).settings =
    ⟨true, .r3200, 37500, 50000, 3125, 12500, false⟩ := by decide +kernel

theorem test_setChannel_busy :
    reply (next (exec (.setChannel 1 0 settingsFields) (live (chan .keying 0 [entry 1 .active 0 64 [0]])))) = some ⟨0x89, 1, [4]⟩ := by
  decide +kernel

theorem test_readZones : reply (next (exec (.readZones 1 255 1) idle)) = some ⟨0x8A, 1, [0, 1, 0, 0, 0, 100]⟩ ∧
    reply (next (exec (.readZones 1 255 2) idle)) = some ⟨0x8A, 1, [3, 2]⟩ := by decide +kernel

theorem test_writeZones :
    ((next (exec (.writeZones 1 40 1 [1, 0xFF, 0xFF, 0xCF, 0xCC]) idle)).zone 40).written = ⟨true, -12340⟩ := by decide +kernel

theorem test_readChannelMap : reply (next (exec (.readChannelMap 1) idle)) =
    some ⟨0x8C, 1, [0, 0, 1, 2, 3, 255, 255, 255, 255, 255, 255, 255, 255, 255, 255, 255, 255]⟩ := by decide +kernel

theorem test_writeChannelMap :
    (next (exec (.writeChannelMap 1 ((Vector.replicate 16 0xFF).set 15 3)) idle)).channelMap[15] = some 3 ∧
    reply (next (exec (.writeChannelMap 1 ((Vector.replicate 16 0xFF).set 15 4)) idle)) = some ⟨0x8D, 1, [3, 16]⟩ := by decide +kernel

theorem test_setTime : reply (next (exec (.setTime 1 5) idle)) = some ⟨0x90, 1, [4]⟩ ∧
    (next (exec (.setTime 1 5) (withTb .acquire idle))).tb.pendingSet = some 5 := by decide +kernel

theorem test_readTime : reply (next (exec (.readTime 1) idle)) = some ⟨0x91, 1,
    [0, 2, 1, 0, 0, 3, 0xE8, 0, 0x1E, 0x84, 0x80, 0, 0, 0, 0, 0, 0, 0, 0, 0, 0, 0, 0, 0, 0, 0]⟩ := by decide +kernel

def sending : State := live (chan .sending 3 [entry 700 .active 0 64 [0]])

theorem test_muteNow : ((next (exec (.muteNow 1 1) sending)).chan 0).seq = { seq .idle 0 with portMute := true } ∧
    outcomes (next (exec (.muteNow 1 1) sending)) = [.abortedMute] := by decide +kernel

theorem test_muteAfter : ((next (exec (.muteAfter 1 1) sending)).chan 0).seq.muteAfter = true ∧
    ((next (exec (.muteAfter 1 1) sending)).chan 0).seq.state = .sending := by decide +kernel

theorem test_unmute : ((next (exec (.unmute 1 15) (live ⟨settings, [], { seq .idle 0 with portMute := true }⟩))).chan 0).seq.portMute = false := by
  decide +kernel

/-- Three queued batches; the head, the second and the third as given. -/
def queued (a b : EntryState) : State :=
  live (chan .idle 0 [entry 700 a 100000 64 [0], entry 701 b 500000 64 [1]])

theorem test_flush : reply (next (exec (.flush 1 1) (queued .ready .ready))) = some ⟨0x9A, 1, [0, 2, 0, 0, 0]⟩ ∧
    outcomes (next (exec (.flush 1 1) (queued .ready .ready))) = [.flushed, .flushed] := by decide +kernel

theorem test_cancel : reply (next (exec (.cancel 1 701) (queued .ready .ready))) = some ⟨0x9B, 1, [0, 0, 1]⟩ ∧
    reply (next (exec (.cancel 1 702) (queued .ready .ready))) = some ⟨0x9B, 1, [6]⟩ := by decide +kernel

theorem test_queryQueue : (reply (next (exec (.queryQueue 1 0) (queued .ready .ready)))).map (fun f => f.body.take 6) =
    some [0, 0, 1, 2, 2, 0xBC] := by decide +kernel

/-- A header for zone 0 and logical channel 0, launched `ahead` ticks after the start of second 1000. -/
def header (n : BitVec 16) (ahead : BitVec 32) (priority : Byte) : Header := ⟨900, 0, 0, priority, 1, n, 1000, ahead⟩

/-- Section 10.10: a batch of 1,000 symbols takes four blocks. -/
theorem test_injectHeader : (next (exec (.injectHeader 1 (header 1000 3000000 1)) idle)).context 8 = some ⟨900, 0, 16, 0, 0⟩ ∧
    ((next (exec (.injectHeader 1 (header 1000 3000000 1)) idle)).chan 0).queue.map (fun e => e.chain) = [[0, 1, 2, 3]] := by
  decide +kernel

def assembling : State := next (exec (.injectHeader 1 (header 70 3000000 1)) idle)

theorem test_injectData :
    let t := next (exec (.injectData 1 900 0 2 (0xC6 :: List.replicate 31 0)) assembling)
    t.context 8 = none ∧ (t.chan 0).queue.map (fun e => (e.state, e.received)) = [(.ready, 70)] ∧
      (List.range 5).map (fun k => cellsRead k t.pool.cells) = [3, 0, 1, 2, 0] := by decide +kernel

theorem test_injectData_gap : reply (next (exec (.injectData 1 900 1 2 (List.replicate 32 0)) assembling)) =
    some ⟨0xA1, 1, [7, 0x14, 0, 0, 1]⟩ := by decide +kernel

/-- Section 9.7: the place of a start number (d of -74, -61, 0 and 7 against 64 records held before 28 and 33). -/
theorem test_fetchRecords : (65490 - 28 : BitVec 16).toInt = -74 ∧ (65508 - 33 : BitVec 16).toInt = -61 ∧
    reply (next (exec (.fetchRecords 1 0 8) idle)) = some ⟨0xA8, 1, [0, 0, 0, 0, 0]⟩ := by decide +kernel

theorem test_readCounts : (reply (next (exec (.readCounts 1) idle))).map (fun f => f.body.drop 71) = some [0, 1, 128] ∧
    (reply (next (exec (.readCounts 1) idle))).map (fun f => f.body.length) = some 74 := by decide +kernel

theorem test_clearCounts :
    (next (exec (.clearCounts 1) { idle with counts := { idle.counts with orphans := 5 } })).counts = Counts.resetValue := by
  decide +kernel

theorem test_readLinkStatus :
    (next (exec (.readLinkStatus 1 1) { idle with framer := { idle.framer with nearEnd := 5 } })).framer.nearEnd = 0 ∧
    reply (next (exec (.readLinkStatus 1 2) idle)) = some ⟨0xB0, 1, [3, 1]⟩ := by decide +kernel

theorem test_setReplyWord : (next (exec (.setReplyWord 1 77) idle)).dir.supplied = 77 ∧
    reply (next (exec (.setReplyWord 1 0x04000000) idle)) = some ⟨0xB1, 1, [3, 1]⟩ := by decide +kernel

theorem test_resetFull : (next (exec (.resetFull 1) idle)).port.resetPending = some .full ∧
    (next (exec .frameTransmitted (next (exec (.resetFull 1) idle)))).tb = Timebase.resetValue := by decide +kernel

theorem test_resetControl : (next (exec (.resetControl 1) idle)).port.resetPending = some .control ∧
    (next (exec .frameTransmitted (next (exec (.resetControl 1) idle)))).port.out = [] := by decide +kernel

theorem test_chain : reply (next (exec (.chain 1 1 2 [0x38, 0, 1, 0, 0x01, 0, 0]) idle)) =
    some ⟨0xBF, 1, [0, 0xB8, 0, 1, 1, 0x81, 0, 1, 8]⟩ := by decide +kernel

theorem test_frameTransmitted : (next (exec .frameTransmitted { idle with port := { idle.port with
    out := [⟨1, 1, []⟩, ⟨2, 2, []⟩] } })).port.out = [⟨2, 2, []⟩] := by decide +kernel

/-- R161, R178: the last frame of a RESET FULL leaves the line with the straps at other levels. -/
theorem test_frameTransmitted_freshStraps :
    let s := { idle with port := { idle.port with out := [⟨0xB8, 1, [0]⟩], resetPending := some .full } }
    (next (exec (.frameTransmitted (some ⟨true, true⟩)) s)).port.lineRate = .b921600 ∧
    (next (exec (.frameTransmitted (some ⟨true, true⟩)) s)).pins.straps = ⟨true, true⟩ := by decide +kernel

/-- R161: start byte A5h on CP_TXD, least significant bit first between start and stop bit, and the idle level. -/
theorem test_txdLevel :
    let s := { idle with port := { idle.port with out := [⟨0x81, 1, [0]⟩] } }
    (List.range 10).map s.txdLevel = [false, true, false, true, false, false, true, false, true, true] ∧
    s.txdLevel 80 = true ∧ idle.txdLevel 0 = true := by decide +kernel

theorem test_controlReset :
    outcomes (next (exec .controlReset { queued .ready .ready with port := { idle.port with resetPending := some .control } })) =
      [.resetDropped, .resetDropped] := by decide +kernel

/-- Section 8.11: keying, taking up behind a hold, a symbol, the tail start, the hold and the release. -/
theorem test_keyInstant : ((next (exec (.keyInstant 0) (withTime (now.later 100000) (queued .ready .ready)))).chan 0).seq.state = .keying ∧
    outcomes (next (exec (.keyInstant 0) (withTime (now.later 100000) (queued .assembling .ready)))) = [.lateData] := by decide +kernel

/-- R4, R8, R51: the fourth edge of ACQUIRE corrects site time past the key instant and leads to LOCKED; the entry is still
discarded with TIMEBASE, and one whose key instant lies beyond is keyed. -/
theorem test_keyInstant_passedByLocking :
    let s (ahead : Nat) := next (exec .ppsEdge
      (let l := live (chan .idle 0 [entry 700 .ready ahead 64 [0]])
       { l with tb := { l.tb with time := ⟨1000, 9999990⟩, state := .acquire, good := 3 } }))
    (s 7999995).tb.state = .locked ∧ (s 7999995).tb.time = ⟨1001, 0⟩ ∧
    outcomes (next (exec (.keyInstant 0) (s 7999995))) = [.timebase] ∧
    ((next (exec (.keyInstant 0) (withTime ⟨1001, 1⟩ (s 8000001)))).chan 0).seq.state = .keying := by decide +kernel

def holding : State := live (chan .hold 64 [entry 801 .active 0 64 [0], entry 802 .ready 260000 64 [1]])

theorem test_holdKeyInstant :
    let t := next (exec (.holdKeyInstant 0) (withTime (now.later 260000) holding))
    (t.chan 0).seq.state = .keying ∧ outcomes t = [.launched] ∧ (t.chan 0).queue.map (fun e => e.tag) = [802] := by decide +kernel

theorem test_symbolInstant :
    let s := { withTime (now.later 59375) sending with pool := { State.reset.pool with cells := [(3, 2)] } }
    ((next (exec (.symbolInstant 0) s)).chan 0).seq = ⟨.sending, false, false, false, false, 4, 2, some 0⟩ := by decide +kernel

theorem test_strobeWithdrawal :
    ((next (exec (.strobeWithdrawal 0) (live ⟨settings, [], { seq .idle 0 with strobe := some 500 }⟩))).chan 0).seq.strobe = none := by
  decide +kernel

theorem test_tailStart :
    ((next (exec (.tailStart 0) (withTime (now.later 250000) (live (chan .sending 64 [entry 801 .active 0 64 [0]]))))).chan 0).seq.state = .tail := by
  decide +kernel

def tailing : State := live (chan .tail 64 [entry 801 .active 0 64 [0], entry 802 .ready 260000 64 [1]])

theorem test_endOfAirtime :
    ((next (exec (.endOfAirtime 0) (withTime (now.later 253125) tailing))).chan 0).seq.state = .hold ∧
    outcomes (next (exec (.endOfAirtime 0) (withTime (now.later 253125) (live (chan .tail 64 [entry 801 .active 0 64 [0]]))))) =
      [.launched] := by decide +kernel

theorem test_exciterFaultAssert : outcomes (next (exec (.exciterFaultAssert 0) sending)) = [.abortedFault] ∧
    ((next (exec (.exciterFaultAssert 0) tailing)).chan 0).seq.state = .tail := by decide +kernel

theorem test_exciterFaultClear :
    ((next (exec (.exciterFaultClear 0) (live ⟨settings, [], { seq .idle 0 with fault := true }⟩))).chan 0).seq.fault = false := by
  decide +kernel

theorem test_pwrwarnAssert : outcomes (next (exec .pwrwarnAssert holding)) = [.power] ∧
    ((next (exec .pwrwarnAssert sending)).chan 0).seq.state = .sending := by decide +kernel

theorem test_pwrwarnRelease :
    (next (exec .pwrwarnRelease { idle with pins := { idle.pins with pwrwarn := true } })).pins.pwrwarn = false := by decide +kernel

theorem test_refclkTick : (next (exec .refclkTick (withTime ⟨4294967295, 9999999⟩ idle))).tb.time = ⟨0, 0⟩ ∧
    (next (exec .refclkTick State.reset)).zones.clearing = some 1 := by decide +kernel

/-- Section 2.5: one bit is corrected, two are not. -/
theorem test_storageDisturbance : ((next (exec (.storageDisturbance 12 [3]) idle)).zone 12).test = some (⟨true, 100⟩, true) ∧
    ((next (exec (.storageDisturbance 40 [3, 9]) idle)).zone 40).test = none := by decide +kernel

/-- Section 5.9: the third look verifies and executes MUTE of channels 0 and 1. -/
theorem test_directive_mute :
    let w : DirWord := 0x03FF1103
    let t := wordItem w true { sending with dir := { sending.dir with history := [w, w] } }
    t.dir.muteMask = 3 ∧ t.dir.verified = w ∧ outcomes t = [.abortedMute] := by decide +kernel

/-! ### Witnesses: states and operands that meet the hypotheses of each statement -/

theorem witness_StepRunsFrontCommand : ({ idle with pending := [.ppsEdge, .refclkTick] } : State).pending = .ppsEdge :: [.refclkTick] ∧
    idle.pending = [] := by decide +kernel

def withNotices (x : NoticeSet) (s : State) : State := { s with port := { s.port with notices := x } }

def withOut (fs : List Frame) (s : State) : State := { s with port := { s.port with out := fs } }

def withReset (o : Option ResetOption) (s : State) : State := { s with port := { s.port with resetPending := o } }

def aFrame : Frame := ⟨0x81, 1, [0]⟩

theorem witness_NoticeSentAtEventEnd :
    (withOut [aFrame] idle).port.out ≠ [] ∧ (withReset (some .full) idle).port.resetPending ≠ none ∧
    (∀ k ∈ allNotices, idle.port.notices.has k = false) ∧
    (idle.port.out = [] ∧ idle.port.resetPending = none ∧
      (∀ k ∈ allNotices, (withNotices NoticeSet.full idle).port.notices.has k = true) ∧
      ∀ j ∈ allNotices, ¬ j.code.toNat < NoticeKind.timebase.code.toNat) ∧
    (let s := withNotices ⟨false, false, false, false, false, false, true⟩ idle;
      s.port.notices.has .power = true ∧ ∀ j ∈ allNotices, j.code.toNat < NoticeKind.power.code.toNat → s.port.notices.has j = false) := by
  decide +kernel

theorem witness_QuietWhileResetAsserted : (next (exec (.fullReset .resetN) idle)).pins.resetN = true := by decide +kernel

theorem witness_ControlResetStages :
    let s := withReset (some .control) (queued .ready .ready)
    Running s ∧ s.port.resetPending = some .control ∧ s.port.out.length ≤ 1 ∧ ContextsMatch s ∧ s.ring.records.length ≤ 64 ∧
      s.counts.outcomes[28] ≤ 65535 ∧ (withOut [aFrame] s).port.out.length = 1 := by decide +kernel

theorem witness_FrameTransmittedAndFullReset :
    Running idle ∧ idle.port.out = [] ∧ (withOut [aFrame, aFrame] idle).port.out = aFrame :: [aFrame] ∧
    (withOut [aFrame] idle).port.resetPending = none ∧ (withReset (some .full) (withOut [aFrame] idle)).port.out = [aFrame] ∧
    (withReset (some .full) (withOut [aFrame] idle)).port.resetPending = some .full ∧
    (withReset (some .control) (withOut [aFrame] idle)).port.resetPending = some .control ∧
    (withReset (some .full) idle).port.out.length ≤ 1 ∧ idle.port.resetPending ≠ some .full ∧
    2 ≤ (withReset (some .full) (withOut [aFrame, aFrame] idle)).port.out.length ∧
    (next (exec (.fullReset .resetN) idle)).pins.resetN = true ∧ aFrame.bytes.length = 8 ∧ 7 < aFrame.bytes.length ∧
    10 * aFrame.bytes.length ≤ 80 := by decide +kernel

theorem witness_TicksAreCounted :
    let z (o : Option Nat) : State := { State.reset with zones := { ZoneMap.resetValue with clearing := o } }
    let q (o : Option Nat) : State := live ⟨settings, [], { seq .idle 0 with strobe := o }⟩
    Running State.reset ∧ (z (some 25600)).zones.clearing = some 25600 ∧ (z (some 25599)).zones.clearing ≠ some 25600 ∧
    (z none).zones.clearing ≠ some 25600 ∧ ((q (some 500)).chan 0).seq.strobe = some 500 ∧
    ((q (some 499)).chan 0).seq.strobe ≠ some 500 := by decide +kernel

/-- The edge error at the state's offset. -/
def err (s : State) : Int := if s.tb.time.offset < 5000000 then (s.tb.time.offset : Int) else (s.tb.time.offset : Int) - 10000000

/-- A Timebase state at an offset, with the outlier count given. -/
def edgeAt (x : TimebaseState) (offset outlier : Nat) : State :=
  { idle with tb := { idle.tb with time := ⟨1000, offset⟩, state := x, outlier := outlier } }

def insideWindow (s : State) : Prop := -(s.params.window : Int) ≤ err s ∧ err s ≤ s.params.window

theorem witness_PpsEdgeInFreeAcquireLocked :
    Running (edgeAt .free 0 0) ∧ (edgeAt .free 0 0).tb.state = .free ∧ (edgeAt .acquire 0 0).tb.state = .acquire ∧
    (edgeAt .locked 0 0).tb.state = .locked ∧ (edgeAt .locked 0 0).tb.time.offset < 10000000 ∧
    err (edgeAt .acquire 20 0) = 20 ∧ err (edgeAt .acquire 21 0) = 21 ∧ err (edgeAt .acquire 9999980 0) = -20 ∧
    err (edgeAt .acquire 9999979 0) = -21 ∧ (edgeAt .acquire 0 0).params.window = 20 ∧
    (edgeAt .locked 21 1).tb.outlier + 1 < 3 ∧ 3 ≤ (edgeAt .locked 21 2).tb.outlier + 1 := by decide +kernel

/-- A HOLDOVER state at error 1,200 whose last error and step-pending are as given. -/
def displaced (last : Int) (pending : Bool) (c : Channel) : State :=
  let s := live c
  { s with tb := { s.tb with
      time := ⟨2000, 1200⟩
      state := .holdover
      lastError := last
      agree := if pending then 4 else 1
      stepPending := pending } }

theorem witness_PpsEdgeInHoldover :
    let c := chan .idle 0 []
    let k := chan .keying 0 [entry 1 .active 0 64 [0]]
    Running (displaced 0 false c) ∧ (displaced 0 false c).tb.state = .holdover ∧ (displaced 0 false c).tb.time.offset < 10000000 ∧
    err (edgeAt .holdover 9999980 0) = -20 ∧ err (displaced 0 false c) = 1200 ∧ (displaced 0 false c).params.window = 20 ∧
    err (displaced 1179 false c) - (displaced 1179 false c).tb.lastError = 21 ∧
    err (displaced 1180 false c) - (displaced 1180 false c).tb.lastError = 20 ∧ (displaced 1180 false c).tb.stepPending = false ∧
    (displaced 1220 true k).tb.stepPending = true ∧ ((displaced 1220 true k).chan 0).seq.state = .keying ∧
    err (displaced 1220 true k) - (displaced 1220 true k).tb.lastError = -20 ∧
    (∀ n : Chan, ((displaced 1220 true c).chan n).seq.state = .idle) := by decide +kernel

/-- A state in which the mid-second check is due. -/
def checkDue (x : TimebaseState) (seen : Bool) (elapsed : Nat) (c : Channel) : State :=
  let s := live c
  { s with tb := { s.tb with time := ⟨1000, 5000000⟩, state := x, edgeSeen := seen, elapsed := elapsed } }

theorem witness_MidSecondCheckByState :
    let c := chan .idle 0 []
    let k := chan .keying 0 [entry 1 .active 0 64 [0]]
    Running idle ∧ 0 < (withTime ⟨1000, 4999999⟩ idle).tb.nextCheck.diff ⟨1000, 4999999⟩ ∧
    (checkDue .free false 0 c).tb.nextCheck.diff (checkDue .free false 0 c).tb.time ≤ 0 ∧ (checkDue .free false 0 c).tb.state = .free ∧
    (checkDue .acquire true 0 c).tb.edgeSeen = true ∧ (checkDue .locked true 0 c).tb.state = .locked ∧
    (checkDue .acquire false 0 c).tb.edgeSeen = false ∧ (checkDue .locked false 0 c).tb.edgeSeen = false ∧
    (checkDue .holdover false 299 c).tb.elapsed + 1 ≤ (checkDue .holdover false 299 c).params.holdover ∧
    (checkDue .holdover false 300 k).params.holdover < (checkDue .holdover false 300 k).tb.elapsed + 1 ∧
    ((checkDue .holdover false 300 k).chan 0).seq.state.keyed = true ∧
    ((checkDue .holdover false 300 k).chan 0).queue = entry 1 .active 0 64 [0] :: [] ∧
    ((checkDue .holdover false 300 k).chan 1).seq.state.keyed = false ∧ ChannelsSound (checkDue .holdover false 300 k) := by
  decide +kernel

def badFrame : Superframe := { goodFrame with check := goodFrame.check + 1 }

def lostFrame : Superframe := { goodFrame with sync := 0x6B3D }

def framerAt (y : SyncState) (confirm miss : Nat) : State :=
  { idle with framer := { idle.framer with sync := y, confirm := confirm, miss := miss } }

/-- The good frame and the one whose check is bad. -/
theorem witness_frames : goodFrame.sync = 0x6B3C ∧ crc16 (coveredBytes goodFrame) = goodFrame.check ∧ badFrame.sync = 0x6B3C ∧
    crc16 (coveredBytes badFrame) ≠ badFrame.check ∧ lostFrame.sync ≠ 0x6B3C := by
  have h : coveredBytes badFrame = coveredBytes goodFrame := rfl
  rw [h, test_goodFrame_check]
  decide

theorem witness_SuperframeInHuntAndConfirm :
    Running (framerAt .hunt 0 0) ∧ (framerAt .hunt 0 0).framer.sync = .hunt ∧ (framerAt .confirm 1 0).framer.sync = .confirm ∧
    (framerAt .confirm 1 0).framer.confirm + 1 < 3 ∧ 3 ≤ (framerAt .confirm 2 0).framer.confirm + 1 := by decide +kernel

theorem witness_SuperframeLost :
    Running (framerAt .sync 3 0) ∧ (framerAt .sync 3 0).framer.sync = .sync ∧ (framerAt .flywheel 3 1).framer.sync = .flywheel ∧
    (framerAt .flywheel 3 1).framer.miss + 1 < 3 ∧ 3 ≤ (framerAt .flywheel 3 2).framer.miss + 1 := by decide +kernel

/-- The frame of `witness_frames` in the states of `witness_SuperframeLost`. -/
theorem witness_SuperframeProcessed : Running (framerAt .flywheel 3 2) ∧ (framerAt .flywheel 3 2).framer.sync = .flywheel := by
  decide +kernel

/-- A slot of eighteen bytes that begins with the two given. -/
def slotWith (a b : Byte) : Slot := ((Vector.replicate 18 0).set 0 a).set 1 b

/-- Context 7 OPEN at segment 1 of 2. -/
def opened : State :=
  let e : Entry := { entry 900 .assembling 500000 70 [0] with source := 7, received := 64 }
  { live (chan .idle 0 [e]) with contexts := contextsReset.set 7 (some ⟨900, 0, 2, 1, 64⟩) }

theorem witness_SlotOutcomes :
    let kind (x : Slot) : BitVec 4 := x[0].extractLsb' 4 4
    let stream (x : Slot) : Nat := (x[0].extractLsb' 0 4).toNat
    kind (slotWith 0x07 0) ≠ 1 ∧ kind (slotWith 0x07 0) ≠ 2 ∧ 8 ≤ stream (slotWith 0x28 0) ∧
    kind (slotWith 0x27 0) = 2 ∧ stream (slotWith 0x27 0) = 7 ∧ kind (slotWith 0x17 0) = 1 ∧ stream (slotWith 0x17 0) = 7 ∧
    idle.context 7 = none ∧ opened.context 7 = some ⟨900, 0, 2, 1, 64⟩ ∧ (slotWith 0x27 0)[1].toNat < 1 ∧
    1 < (slotWith 0x27 2)[1].toNat ∧ (slotWith 0x27 1)[1].toNat = 1 ∧
    (contextEntry ⟨900, 0, 2, 1, 64⟩ opened).map (fun e => e.source) = some 7 ∧
    (contextEntry ⟨900, 0, 2, 0, 0⟩ assembling).map (fun e => e.source) = some 8 ∧ PoolCanonical opened ∧
    (contextEntry ⟨900, 0, 2, 1, 64⟩ opened).map (fun e => (e.n + 63) / 64) = some 2 ∧
    (contextEntry ⟨900, 0, 2, 0, 0⟩ assembling).map (fun e => (e.n + 63) / 64) = some 2 ∧ PoolCanonical assembling ∧
    ((slotWith 0x27 1).toList.drop 2).length = 16 := by decide +kernel

theorem witness_UplinkSuperframeSent :
    Running (framerAt .sync 0 0) ∧ (framerAt .sync 0 0).framer.sync = .sync ∧ (framerAt .hunt 0 0).framer.sync = .hunt ∧
    (framerAt .confirm 0 0).framer.sync = .confirm := by decide +kernel

theorem witness_ThreeLookHistory : idle.dir.history.length ≤ 3 ∧
    ({ idle with dir := { idle.dir with history := [1, 1, 1] } } : State).dir.history.length = 3 := by decide +kernel

theorem witness_WordItemSteps :
    let w : DirWord := 0x03FF2100
    historyAfter [w, w] w true = [w, w, w] ∧ w ≠ idle.dir.verified ∧ historyAfter [w, w] w false ≠ [w, w, w] ∧
    idle.params.mode = .auto ∧ addressedHere w idle.params = true ∧ directiveOf w = some .holdAdmission ∧
    addressedHere 0x00012100 idle.params = false ∧ directiveOf 0x03FF5500 = none ∧
    ({ idle with params := { idle.params with mode := .transparentChange } } : State).params.mode = .transparentChange ∧
    ({ idle with params := { idle.params with mode := .transparentVerified } } : State).params.mode = .transparentVerified := by
  decide +kernel

theorem witness_DirectiveWordsAndReply :
    (3 : Byte).toNat < 4 ∧ ¬ (4 : Byte).toNat < 4 ∧ (15 : Byte).toNat < 16 ∧ ¬ (16 : Byte).toNat < 16 ∧
    wordDefined 0x03FF110F = true ∧ wordDefined 0x03FF1110 = false ∧ wordDefined 0x07FF1100 = false ∧
    (let s : State := { idle with dir := { idle.dir with verified := 0x03FF5500, lastGood := some 0x03FF5500 } };
      addressedHere s.dir.verified s.params = true ∧ directiveOf s.dir.verified = none ∧ s.dir.lastGood = some s.dir.verified) ∧
    (let s : State := { idle with dir := { idle.dir with lastGood := some 0x03FF1103 } };
      s.dir.lastGood = some 0x03FF1103 ∧ addressedHere 0x03FF1103 s.params = true ∧ s.dir.lastGood ≠ some s.dir.verified) ∧
    idle.dir.lastGood = none ∧ addressedHere 0x00010000 idle.params = false := by decide +kernel

def inFrame (bytes : List Byte) : State := { idle with port := { idle.port with frame := some bytes, timeout := some now } }

theorem witness_AssemblerTakesBytes :
    let good : List Byte := Frame.bytes ⟨0x01, 7, []⟩
    (withReset (some .full) idle).port.resetPending ≠ none ∧ idle.port.frame = none ∧ idle.port.resetPending = none ∧
    (inFrame [0xA5]).port.frame = some [0xA5] ∧ ([0xA5, 0] ++ [1] : List Byte).length < 4 ∧
    256 * (4 : Byte).toNat + (0 : Byte).toNat ≤ 1024 ∧ 1024 < 256 * (4 : Byte).toNat + (1 : Byte).toNat ∧
    good.length = 7 ∧ (inFrame (good.take 6)).port.frame = some (good.take 6) ∧
    crc16 ((good.drop 1).take 4) = good.getD 5 0 ++ good.getD 6 0 ∧
    (inFrame [0xA5]).port.timeout = some now ∧ now.diff (inFrame [0xA5]).tb.time ≤ 0 ∧
    0 < now.diff (withTime ⟨1000, 1999999⟩ (inFrame [0xA5])).tb.time ∧ idle.port.timeout = none := by decide +kernel

theorem witness_FrameBytesRunRequest :
    requestOf (.chain 7 0 1 [1, 0, 0]) = some (7, .chain 0 1 [1, 0, 0]) ∧ Instr.wellFormed (.chain 7 0 1 [1, 0, 0]) = true ∧
    Running idle ∧ idle.port.resetPending = none ∧ idle.port.frame = none ∧ idle.port.timeout = none ∧ NoticesSent idle := by
  decide +kernel

def fullOut : State := withOut [aFrame, aFrame, aFrame, aFrame] idle

theorem witness_FramesRefusedOrNotExecuted :
    Running fullOut ∧ (requestOf (.identify 1)).isSome = true ∧ fullOut.port.resetPending = none ∧ 4 ≤ fullOut.port.out.length ∧
    (withReset (some .control) idle).port.resetPending ≠ none ∧ Accepts idle ∧ Accepts (withOut [aFrame, aFrame, aFrame] idle) ∧
    (0x00 : Byte).toNat ∉ [0x01, 0x02, 0x03, 0x08] ∧ (0xFF : Byte).toNat ∉ [0x01, 0x3F] ∧ ([0] : List Byte).length ≠ 0 ∧
    ([0] : List Byte).length < 2 ∧ ([0, 0, 0] : List Byte).length < 4 := by decide +kernel

theorem witness_ReportsAndReadingRequests : Accepts idle ∧ 4 ≤ (4 : Byte).toNat ∧ 4 ≤ (255 : Byte).toNat := by decide +kernel

/-- Two records, the next number 0 just past the wrap. -/
def recorded : State :=
  let b : RecordBody := ⟨1, some 0, 0, 8, .launched, some now, some 64, 64⟩
  { idle with ring := ⟨[⟨65534, b, now⟩, ⟨65535, b, now⟩], 0, none⟩ }

theorem witness_FetchRecordsReturns :
    Accepts recorded ∧ RingNumbered recorded ∧ (0 : Byte).toNat = 0 ∧ 8 < (9 : Byte).toNat ∧ 1 ≤ (1 : Byte).toNat ∧ (8 : Byte).toNat ≤ 8 ∧
    (0 - recorded.ring.nextSeq : BitVec 16).toInt = 0 ∧ (65535 - recorded.ring.nextSeq : BitVec 16).toInt = -1 ∧
    (65534 - recorded.ring.nextSeq : BitVec 16).toInt = -2 ∧ (65533 - recorded.ring.nextSeq : BitVec 16).toInt = -3 ∧
    (32767 - recorded.ring.nextSeq : BitVec 16).toInt = 32767 := by decide +kernel

theorem witness_SetParametersReplaces : Accepts idle ∧ firstBad 1 (paramChecks paramFields) = none ∧
    firstBad 1 (paramChecks { paramFields with siteAddress := 1015, window := 2, slew := 16, holdover := 3600 }) = none ∧
    firstBad 1 (paramChecks { paramFields with siteAddress := 1016 }) = some 1 ∧
    firstBad 1 (paramChecks { paramFields with mode := 3 }) = some 3 ∧
    firstBad 1 (paramChecks { paramFields with enables := 128 }) = some 9 := by decide +kernel

theorem witness_SetChannelReplaces : Accepts idle ∧ 4 ≤ (4 : Byte).toNat ∧ firstBad 1 (settingsChecks 3 settingsFields) = none ∧
    firstBad 1 (settingsChecks 3 { settingsFields with enabled := 2 }) = some 2 ∧
    firstBad 1 (settingsChecks 3 { settingsFields with dry := 2 }) = some 8 ∧ (idle.chan 0).queue = [] ∧
    (idle.chan 0).seq.state = .idle ∧ (State.reset.chan 0).seq.state = .disabled ∧ (State.reset.chan 0).queue = [] ∧
    Accepts State.reset ∧ ((queued .ready .ready).chan 0).queue ≠ [] ∧ Accepts (queued .ready .ready) := by decide +kernel

theorem witness_ReadZonesReads : Accepts idle ∧ idle.zones.tally ≤ 255 ∧ idle.counts.corrected ≤ 65535 ∧ (0 : Byte).toNat = 0 ∧ 64 < (65 : Byte).toNat ∧ State.reset.zones.ready = false ∧
    idle.zones.ready = true ∧ 256 < (193 : Byte).toNat + (64 : Byte).toNat ∧ (192 : Byte).toNat + (64 : Byte).toNat ≤ 256 ∧
    (255 : Byte).toNat + (1 : Byte).toNat ≤ 256 ∧ (idle.zone 0).test = some (⟨true, 100⟩, false) ∧
    ((next (exec (.storageDisturbance 255 [0]) idle)).zone 255).test = some (⟨true, 100⟩, true) ∧
    ((next (exec (.storageDisturbance 255 [0, 7]) idle)).zone 255).test = none := by decide +kernel

theorem witness_WriteZonesWrites : Accepts idle ∧ ([1, 0, 0, 0] : List Byte).length ≠ 5 * (1 : Byte).toNat ∧
    ([1, 0, 0, 0, 0] : List Byte).length = 5 * (1 : Byte).toNat ∧ State.reset.zones.ready = false ∧
    256 < (255 : Byte).toNat + (2 : Byte).toNat ∧ (255 : Byte).toNat + (1 : Byte).toNat ≤ 256 ∧
    ((0 : Byte) ++ (0 : Byte) ++ (0xC3 : Byte) ++ (0x50 : Byte) : BitVec 32).toInt = 50000 ∧
    ((0xFF : Byte) ++ (0xFF : Byte) ++ (0x3C : Byte) ++ (0xAF : Byte) : BitVec 32).toInt = -50001 ∧ idle.zones.ready = true := by
  decide +kernel

theorem witness_MapTimeAndStatusRequests : Accepts idle ∧
    (Vector.replicate 16 (0xFF : Byte)).toList.findIdx? (fun b => decide (3 < b.toNat ∧ b ≠ 0xFF)) = none ∧
    ((Vector.replicate 16 (3 : Byte)).set 15 4).toList.findIdx? (fun b => decide (3 < b.toNat ∧ b ≠ 0xFF)) = some 15 ∧
    idle.tb.valid = true ∧ idle.tb.state = .locked ∧ State.reset.tb.valid = false ∧ (withTb .acquire idle).tb.state = .acquire ∧
    1 < (2 : Byte).toNat ∧ (0x03FFFFFF : DirWord).toNat < 2 ^ 26 ∧ 2 ^ 26 ≤ (0x04000000 : DirWord).toNat := by decide +kernel

theorem witness_MutesOfTheControlPort : Accepts idle ∧ 16 ≤ (16 : Byte).toNat ∧ (15 : Byte).toNat < 16 ∧
    (idle.chan 0).seq.state = .idle ∧ (State.reset.chan 0).seq.state = .disabled ∧
    (sending.chan 0).queue = entry 700 .active 0 64 [0] :: [] ∧ (entry 700 .active 0 64 [0]).state = .active ∧
    (sending.chan 0).seq.state = .sending ∧ (tailing.chan 0).seq.state = .tail ∧ (holding.chan 0).seq.state = .hold ∧
    ((live (chan .keying 0 [entry 1 .active 0 64 [0]])).chan 0).seq.state = .keying ∧ (sending.chan 0).seq.portMute = false ∧
    ((next (exec (.muteNow 1 1) idle)).chan 0).seq.portMute = true ∧ 1 < (2 : Byte).toNat ∧ 1 < (255 : Byte).toNat := by
  decide +kernel

/-- The keyed states of a mute NOW by directive; in SENDING with all symbols sent, log 30's case. -/
theorem witness_DirectiveEffects :
    let h := entry 700 .active 0 64 [0]
    h.state = .active ∧ (idle.chan 0).seq.state = .idle ∧ (State.reset.chan 0).seq.state = .disabled ∧
    (∀ x ∈ [(SeqState.keying, 0), (.sending, 3), (.sending, 64), (.tail, 64), (.hold, 64)],
      let s := live (chan x.1 x.2 [h])
      (s.chan 0).queue = h :: [] ∧ (s.chan 0).seq.state = x.1) ∧
    outcomes (cutMuted 0 (live (chan .sending 64 [h]))) = [.abortedMute] := by decide +kernel

theorem witness_FlushRemovesQueued : Accepts idle ∧ 16 ≤ (16 : Byte).toNat ∧ (15 : Byte).toNat < 16 := by decide +kernel

theorem witness_CancelAndHoldDecision :
    Accepts holding ∧ TagsUnique holding ∧ (∀ n : Chan, ∀ e ∈ (holding.chan n).queue, e.tag ≠ 7) ∧
    (holding.chan 0).queue = entry 801 .active 0 64 [0] :: entry 802 .ready 260000 64 [1] :: [] ∧
    (entry 802 .ready 260000 64 [1]).state ≠ .active ∧ (holding.chan 0).seq.state = .hold ∧ (idle.chan 0).seq.state ≠ .hold ∧
    (entry 802 .ready 453125 64 [1]).tk.diff (entry 801 .active 0 64 [0]).tend ≤ settings.holdGap ∧
    ((settings.holdGap : Nat) : Int) < (entry 802 .ready 453126 64 [1]).tk.diff (entry 801 .active 0 64 [0]).tend := by decide +kernel

theorem witness_HeaderDiscardedEarly :
    let h := header 1000 3000000 1
    Accepts idle ∧ Accepts State.reset ∧ idle.context 8 = none ∧ assembling.context 8 = some ⟨900, 0, 2, 0, 0⟩ ∧
    ({ idle with pins := { idle.pins with pwrwarn := true } } : State).pins.pwrwarn = true ∧
    headerInRange { h with n := 0 } = false ∧ headerInRange { h with n := 8193 } = false ∧
    headerInRange { h with o := 10000000 } = false ∧ headerInRange { h with n := 8192, o := 9999999, priority := 3, logical := 15 } = true ∧
    ({ idle with dir := { idle.dir with hold := true } } : State).dir.hold = true ∧ idle.dir.hold = false ∧
    State.reset.tb.valid = false ∧ ({ idle with zones := { zones with ready := false } } : State).zones.ready = false ∧
    ((next (exec (.storageDisturbance 0 [1, 2]) idle)).zone 0).test = none ∧ (idle.zone 0).test = some (⟨true, 100⟩, false) ∧
    ({ idle with zones := ZoneMap.resetValue } : State).zone 0 = ⟨⟨false, 0⟩, []⟩ ∧ idle.channelMap[4] = none ∧
    idle.channelMap[3] = some 3 ∧ (State.reset.chan 0).settings.enabled = false ∧ (idle.chan 3).settings.enabled = true ∧
    (idle.chan 3).settings.rate = .r3200 ∧ (∃ e ∈ (assembling.chan 0).queue, e.tag = 900) := by decide +kernel

theorem witness_StorageCheckOfZones :
    (idle.zone 0).test = some (⟨true, 100⟩, false) ∧
    ((next (exec (.storageDisturbance 0 [5]) idle)).zone 0).test = some (⟨true, 100⟩, true) ∧
    ((next (exec (.storageDisturbance 0 [5, 6]) idle)).zone 0).test = none ∧ Running idle ∧ ([1, 4] : List Nat).Pairwise (· < ·) := by
  decide +kernel

/-- Instants of a header at logical channel 0: T is the offset given plus 100 (D of zone 0, L being 0) in second 1000. -/
def placed (n : BitVec 16) (o : BitVec 32) : Instants := launchInstants 1000 o.toNat n.toNat .r3200 100 settings

/-- A header that reaches step 11 on channel 0 through INJECT HEADER. -/
abbrev Injected (h : Header) (s : State) : Prop :=
  Accepts s ∧ s.context 8 = none ∧ earlyCheck h s = none ∧ (s.zone h.zone).test = some (⟨true, 100⟩, false) ∧
  (0 : Fin 16).val = h.logical.toNat ∧ s.channelMap[(0 : Fin 16)] = some 0 ∧ routeCheck h 0 s = none

theorem witness_PlacementChecks_injected :
    Injected (header 64 2099899 1) idle ∧ Injected ⟨900, 0, 0, 1, 1, 64, 1030, 2000001⟩ idle ∧
    Injected (header 64 2150000 1) (queued .ready .ready) ∧
    Injected (header 64 3000000 1) (live (chan .idle 0 ((List.range 16).map (fun i =>
      entry (BitVec.ofNat 16 i) .ready (2000000 + 300000 * i) 64 [i])))) ∧
    Injected (header 64 3000000 1) { idle with pool := ⟨[], []⟩ } := by decide +kernel

/-- Each check of steps 11 to 14 decides for some header, at its boundary: keying 49,999 ticks ahead is late and 50,000 is not. -/
theorem witness_PlacementChecks :
    let s := queued .ready .ready
    let early (o : BitVec 32) : Header := header 64 o 1
    routeCheck (early 3000000) 0 s = none ∧
    placeCheck (early 2099899) 0 (placed 64 2099899) idle = some .late ∧ placeCheck (early 2099900) 0 (placed 64 2099900) idle ≠ some .late ∧
    placeCheck ⟨900, 0, 0, 1, 1, 64, 1030, 2000000⟩ 0 (launchInstants 1030 1999900 64 .r3200 100 settings) idle = none ∧
    placeCheck ⟨900, 0, 0, 1, 1, 64, 1030, 2000000⟩ 0 (launchInstants 1030 1999901 64 .r3200 100 settings) idle = some .tooEarly ∧
    placeCheck (early 2150000) 0 (placed 64 2150000) s = some .overlap ∧
    placeCheck (header 64 2150000 2) 0 (placed 64 2150000) s = none ∧
    placeCheck (early 3000000) 0 (placed 64 3000000) (live (chan .idle 0 ((List.range 16).map (fun i =>
      entry (BitVec.ofNat 16 i) .ready (2000000 + 300000 * i) 64 [i])))) = some .queueFull ∧
    placeCheck (early 3000000) 0 (placed 64 3000000) { idle with pool := ⟨[], []⟩ } = some .poolEmpty := by decide +kernel

theorem witness_HeaderCommitted :
    let s := queued .ready .ready
    let h := header 64 2150000 2
    Accepts s ∧ s.context 8 = none ∧ s.context 7 = none ∧ s.context 0 = none ∧ earlyCheck h s = none ∧
    (s.zone h.zone).test = some (⟨true, 100⟩, false) ∧
    (0 : Fin 16).val = h.logical.toNat ∧ s.channelMap[(0 : Fin 16)] = some 0 ∧ routeCheck h 0 s = none ∧
    placeCheck h 0 (placed 64 2150000) s = none := by decide +kernel

theorem witness_InjectDataRefused :
    Accepts assembling ∧ 127 < (128 : Byte).toNat ∧ (127 : Byte).toNat ≤ 127 ∧ 8 < (9 : Byte).toNat ∧
    128 < (127 : Byte).toNat + (2 : Byte).toNat ∧ (127 : Byte).toNat + (1 : Byte).toNat ≤ 128 ∧
    ([] : List Byte).length ≠ 16 * (1 : Byte).toNat ∧ (List.replicate 16 (0 : Byte)).length = 16 * (1 : Byte).toNat ∧
    idle.context 8 = none ∧ assembling.context 8 = some ⟨900, 0, 2, 0, 0⟩ ∧ (900 : BitVec 16) ≠ 901 ∧ 0 < (1 : Byte).toNat := by
  decide +kernel

/-- A batch of 70 symbols whose first segment has arrived, and requests that repeat it, complete it, or run past it. -/
theorem witness_InjectDataWrites :
    let s := next (exec (.injectData 1 900 0 1 (List.replicate 16 0x55)) assembling)
    let c : Context := ⟨900, 0, 2, 1, 64⟩
    Accepts s ∧ ContextsMatch s ∧ TagsUnique s ∧ PoolCanonical s ∧ s.context 8 = some c ∧
    (contextEntry c s).map (fun e => (e.chain, e.n)) = some ([0], 70) ∧ ([0] : List Nat).Nodup ∧ ([0] : List Nat).length = (70 + 255) / 256 ∧
    70 ≤ 8192 ∧ s.counts.orphans ≤ 65535 ∧ (0 : Byte).toNat ≤ c.next ∧ (1 : Byte).toNat ≤ c.next ∧
    (1 : Byte).toNat + (8 : Byte).toNat ≤ 128 ∧ (List.replicate 128 (0 : Byte)).length = 16 * (8 : Byte).toNat := by decide +kernel

theorem witness_ChainRunsSubRequests : Accepts idle ∧ 1 < (2 : Byte).toNat ∧ (1 : Byte).toNat ≤ 1 ∧ 8 < (9 : Byte).toNat ∧
    ([(0x01, [])] : List (Byte × List Byte)).length = (1 : Byte).toNat ∧
    ([0x01, 0, 0] : List Byte) = ([(0x01, [])] : List (Byte × List Byte)).flatMap
      (fun x => x.1 :: BitVec.ofNat 8 (x.2.length / 256) :: BitVec.ofNat 8 x.2.length :: x.2) := by decide +kernel

/-- A body of two bytes is no sub-request. -/
theorem witness_ChainBadBody (subs : List (Byte × List Byte)) (h : subs.length = 1) :
    ([0x01, 0] : List Byte) ≠
      subs.flatMap (fun x => x.1 :: BitVec.ofNat 8 (x.2.length / 256) :: BitVec.ofNat 8 x.2.length :: x.2) := by
  intro e
  match subs, h with
  | [x], _ =>
    have := congrArg List.length e
    simp at this

theorem witness_KeyInstantKeysOrDiscards :
    let s := queued .ready .ready
    let e := entry 700 .ready 100000 64 [0]
    Running s ∧ (sending.chan 0).seq.state ≠ .idle ∧ (idle.chan 0).queue = [] ∧ (s.chan 0).seq.state = .idle ∧
    (s.chan 0).queue = e :: [entry 701 .ready 500000 64 [1]] ∧ 0 < e.tk.diff (now.later 99999) ∧ e.tk.diff (now.later 100000) ≤ 0 ∧
    e.state = .ready ∧ (entry 700 .assembling 100000 64 [0]).state ≠ .ready ∧ (s.chan 0).seq.portMute = false ∧
    ((next (exec (.muteNow 1 1) s)).chan 0).seq.portMute = true ∧ ((next (exec (.exciterFaultAssert 0) s)).chan 0).seq.fault = true ∧
    (withTb .acquire s).tb.state = .acquire ∧ s.tb.state = .locked ∧ s.tb.valid = true ∧
    (next (exec .pwrwarnAssert s)).pins.pwrwarn = true ∧ s.pins.pwrwarn = false ∧ e.passed = false ∧
    ({ e with passed := true } : Entry).passed ≠ false := by decide +kernel

theorem witness_HoldKeyInstantTakesUp :
    let e := entry 802 .ready 260000 64 [1]
    Running holding ∧ (holding.chan 0).seq.state = .hold ∧ (holding.chan 0).queue = entry 801 .active 0 64 [0] :: e :: [] ∧
    (idle.chan 0).seq.state ≠ .hold ∧ 0 < e.tk.diff (now.later 259999) ∧ e.tk.diff (now.later 260000) ≤ 0 ∧ e.state = .ready ∧
    e.passed = false ∧ (entry 802 .assembling 260000 64 [1]).state ≠ .ready ∧ holding.dir.muteMask.getLsbD 0 = false ∧
    (holding.chan 0).seq.fault = false ∧ holding.tb.valid = true ∧ holding.pins.pwrwarn = false := by decide +kernel

theorem witness_SymbolsAndTailStart :
    let h := entry 700 .active 0 64 [0]
    Running sending ∧ (sending.chan 0).queue = h :: [] ∧ (sending.chan 0).seq.sent < h.n ∧
    (h.t.later (3 * 3125)).diff (now.later 59375) ≤ 0 ∧ 0 < (h.t.later (3 * 3125)).diff (now.later 59374) ∧
    ((live (chan .sending 64 [h])).chan 0).seq.sent = h.n ∧ (h.t.later (64 * 3125)).diff (now.later 250000) ≤ 0 ∧
    0 < (h.t.later (64 * 3125)).diff (now.later 249999) ∧ (idle.chan 0).seq.state ≠ .sending ∧
    ((live (chan .keying 0 [h])).chan 0).seq.state = .keying ∧ h.t.diff (now.later 50000) ≤ 0 := by decide +kernel

theorem witness_EndOfAirtimeHoldsOrReleases :
    let h := entry 801 .active 0 64 [0]
    Running tailing ∧ (tailing.chan 0).queue = h :: entry 802 .ready 260000 64 [1] :: [] ∧ h.state = .active ∧
    (tailing.chan 0).seq.state = .tail ∧ 0 < h.tend.diff (now.later 253124) ∧ h.tend.diff (now.later 253125) ≤ 0 ∧
    (entry 802 .ready 260000 64 [1]).tk.diff h.tend ≤ (tailing.chan 0).settings.holdGap ∧
    (tailing.chan 0).seq.muteAfter = false ∧ (tailing.chan 0).seq.fault = false ∧ tailing.pins.pwrwarn = false ∧
    (holding.chan 0).seq.state ≠ .tail ∧ ((next (exec (.muteAfter 1 1) tailing)).chan 0).seq.muteAfter = true := by decide +kernel

theorem witness_FaultAndPowerWarning :
    Running sending ∧ (sending.chan 0).seq.fault = false ∧ (sending.chan 0).seq.state = .sending ∧
    (sending.chan 0).queue = entry 700 .active 0 64 [0] :: [] ∧ (holding.chan 0).seq.state = .hold ∧ (tailing.chan 0).seq.state = .tail ∧
    ((next (exec (.exciterFaultAssert 0) idle)).chan 0).seq.fault = true ∧ idle.pins.pwrwarn = false ∧
    (next (exec .pwrwarnAssert idle)).pins.pwrwarn = true ∧ (idle.chan 0).seq.state = .idle := by decide +kernel

theorem witness_LaunchInstantAndKeyInstant :
    let t (o : Nat) (d : Int) (c : Settings) : SiteTime := (launchInstants 0 o 1 .r3200 d c).t
    let c : Settings := { settings with latency := 200000, lead := 200000 }
    (0 : Int) + (-50000 - 200000) = -250000 ∧ t 0 (-50000) c = ⟨4294967295, 9750000⟩ ∧ t 9999999 50000 settings = ⟨1, 49999⟩ ∧
    t 9950000 50000 settings = ⟨1, 0⟩ ∧ t 150000 50000 c = ⟨0, 0⟩ ∧ t 149999 50000 c = ⟨4294967295, 9999999⟩ ∧
    (launchInstants 0 9950000 1 .r3200 50000 settings).tk = ⟨0, 9950000⟩ := by decide +kernel

theorem witness_AirtimeInterval :
    let c : Settings := { settings with latency := 200000, lead := 200000, tail := 100000 }
    let z : Settings := { settings with latency := 0, lead := 0, tail := 0 }
    c.latency ≤ 200000 ∧ c.lead ≤ 200000 ∧ c.tail ≤ 100000 ∧
    (let x := launchInstants 7 9999999 8192 .r1600 50000 c; x.tend.diff x.tk = 51500000) ∧
    (let x := launchInstants 7 0 1 .r3200 0 z; x.tend.diff x.tk = 3125) ∧ 0 < 8192 := by decide +kernel

theorem witness_SignedTimeDifference : (⟨0, 9999999⟩ : SiteTime).offset < 10000000 ∧ (⟨2147483648, 0⟩ : SiteTime).offset < 10000000 ∧
    ((2147483648 : BitVec 32).toNat + (4294967296 - (0 : BitVec 32).toNat)) % 4294967296 = 2147483648 := by decide +kernel

theorem witness_CheckSequence : ([] : List Byte).length < 65536 ∧ aFrame.body.length < 65536 := by decide +kernel

/-- A state with a batch on the air and one being assembled meets every invariant, and a command stands in front. -/
def onAir : State :=
  let s := live (chan .sending 3 [entry 700 .active 0 64 [0], { entry 900 .assembling 500000 70 [1] with source := 7, received := 64 }])
  { s with
    contexts := contextsReset.set 7 (some ⟨900, 0, 2, 1, 64⟩)
    pool := ⟨(List.range 384).drop 2, []⟩
    pending := [.exciterFaultAssert 0] }

theorem witness_invariants_first : TimeInRange onAir ∧ NoticesSent onAir ∧ OutputBounded onAir ∧ PoolCanonical onAir ∧
    CountsBounded onAir ∧ RingNumbered onAir ∧ QueuesBounded onAir := by
  refine ⟨by decide +kernel, by decide +kernel, by decide +kernel, by decide +kernel, by decide +kernel, by decide +kernel,
    by decide +kernel⟩

theorem witness_invariants_second : IntervalsDisjoint onAir ∧ TagsUnique onAir ∧ ChannelsSound onAir ∧ KeyedOnlyAllowed onAir ∧
    ContextsMatch onAir ∧ ParamsInRange onAir ∧ TimebaseSound onAir ∧ ChainsSized onAir := by
  refine ⟨by decide +kernel, by decide +kernel, by decide +kernel, by decide +kernel, by decide +kernel, by decide +kernel, by decide +kernel,
    by decide +kernel⟩

theorem witness_PoolStaysBalanced : PoolBalanced onAir := by
  have h : onAir.pool.free ++ onAir.chainBlocks = (List.range 384).drop 2 ++ [0, 1] := by decide +kernel
  have h2 : List.range 384 = [0, 1] ++ (List.range 384).drop 2 := by decide +kernel
  have h3 : ((List.range 384).drop 2 ++ [0, 1]).Perm ([0, 1] ++ (List.range 384).drop 2) := List.perm_append_comm
  unfold PoolBalanced
  rw [h]
  rw [← h2] at h3
  exact h3

theorem witness_step : ∃ t, step onAir = .next t := ⟨_, rfl⟩

end Sys2Proof.Machine.Tests
end

section
/-! PROOFS. Launch-time arithmetic: T and Tk of a header (R39 to R41) and the signed difference of two site times (R45). -/

namespace Sys2Proof.Machine

/-! ### One borrow or one carry -/

/-- The rows of R40's table, one lemma each: the borrow. -/
theorem normalise_borrow (a : BitVec 32) {q : Int} (lower : -10000000 ≤ q) (upper : q < 0) :
    (SiteTime.normalise a q).second = a - 1 ∧ ((SiteTime.normalise a q).offset : Int) = q + 10000000 := by
  rw [SiteTime.normalise, if_pos upper]
  exact ⟨rfl, Int.toNat_of_nonneg (by omega)⟩

/-- The row of R40's table in which the second stays. -/
theorem normalise_same (a : BitVec 32) {q : Int} (lower : 0 ≤ q) (upper : q < 10000000) :
    (SiteTime.normalise a q).second = a ∧ ((SiteTime.normalise a q).offset : Int) = q := by
  rw [SiteTime.normalise, if_neg (by omega), if_neg (by omega)]
  exact ⟨rfl, Int.toNat_of_nonneg lower⟩

/-- The row of R40's table with a carry. -/
theorem normalise_carry (a : BitVec 32) {q : Int} (lower : 10000000 ≤ q) :
    (SiteTime.normalise a q).second = a + 1 ∧ ((SiteTime.normalise a q).offset : Int) = q - 10000000 := by
  rw [SiteTime.normalise, if_neg (by omega), if_pos lower]
  exact ⟨rfl, Int.toNat_of_nonneg (by omega)⟩

/-- A site time from its second and its offset as a signed number. -/
theorem siteTime_eq {x : SiteTime} {a : BitVec 32} {m : Nat} {q : Int} (h : x.second = a ∧ (x.offset : Int) = q)
    (hm : q = m) : x = ⟨a, m⟩ := by
  obtain ⟨second, offset⟩ := x
  obtain ⟨rfl, hoffset⟩ := h
  rw [show offset = m from Int.ofNat_inj.mp (hoffset.trans hm)]

/-- Going back by no more than the offset stays in the second (R41). -/
theorem correct_neg_of_le {x : SiteTime} {k : Nat} (range : x.offset < 10000000) (hk : k ≤ x.offset) :
    x.correct (-(k : Int)) = ⟨x.second, x.offset - k⟩ :=
  siteTime_eq (normalise_same x.second (by omega) (by omega)) (by omega)

/-- Going back by more than the offset, and by at most one second, borrows once (R41). -/
theorem correct_neg_of_lt {x : SiteTime} {k : Nat} (hk : x.offset < k) (bound : k ≤ 10000000) :
    x.correct (-(k : Int)) = ⟨x.second - 1, x.offset + 10000000 - k⟩ :=
  siteTime_eq (normalise_borrow x.second (by omega) (by omega)) (by omega)

/-- Going back by at most one second leaves the offset in its range (R41). -/
theorem correct_neg_offset {x : SiteTime} {k : Nat} (range : x.offset < 10000000) (bound : k ≤ 10000000) :
    (x.correct (-(k : Int))).offset < 10000000 := normalise_offset x.second _ (by omega) (by omega)

/-! ### T and Tk -/

theorem launchInstants_t (sec : BitVec 32) (o n : Nat) (rate : Rate) (d : Int) (c : Settings) :
    (launchInstants sec o n rate d c).t = SiteTime.normalise sec (o + (d - c.latency)) := rfl

theorem launchInstants_tk (sec : BitVec 32) (o n : Nat) (rate : Rate) (d : Int) (c : Settings) :
    (launchInstants sec o n rate d c).tk = (launchInstants sec o n rate d c).t.correct (-(c.lead : Int)) := rfl

/-- Settles O48: T by the row of R40's table that Q falls in, Tk by whether the offset of T covers K, and the last three
parts by the two together. -/
theorem launchInstantAndKeyInstant : Obligations.LaunchInstantAndKeyInstant := by
  intro sec o n rate d c ho hdLow hdHigh hL hK a q k x
  have ha : -250000 ≤ a ∧ a ≤ 50000 := by omega
  have hq : -250000 ≤ q ∧ q ≤ 10049999 := by omega
  have launch : x.t = SiteTime.normalise sec q := launchInstants_t sec o n rate d c
  have key : x.tk = x.t.correct (-(k : Int)) := launchInstants_tk sec o n rate d c
  have borrow : q < 0 → x.t.second = sec - 1 ∧ (x.t.offset : Int) = q + 10000000 := by
    rw [launch]; exact normalise_borrow sec (by omega)
  have same : 0 ≤ q → q < 10000000 → x.t.second = sec ∧ (x.t.offset : Int) = q := by
    rw [launch]; exact normalise_same sec
  have carry : 10000000 ≤ q → x.t.second = sec + 1 ∧ (x.t.offset : Int) = q - 10000000 := by
    rw [launch]; exact normalise_carry sec
  have ht : x.t.offset < 10000000 := by rw [launch]; exact normalise_offset sec q (by omega) (by omega)
  have htk : x.tk.offset < 10000000 := by rw [key]; exact correct_neg_offset ht (by omega)
  have keySame : k ≤ x.t.offset → x.tk = ⟨x.t.second, x.t.offset - k⟩ := by
    rw [key]; exact correct_neg_of_le ht
  have keyBorrow : x.t.offset < k → x.tk = ⟨x.t.second - 1, x.t.offset + 10000000 - k⟩ := fun h => by
    rw [key]; exact correct_neg_of_lt h (by omega)
  refine ⟨⟨ha.1, ha.2, hq⟩, borrow, same, carry, ht, htk, keySame, keyBorrow, fun noLead => ?_, fun hneg => ?_,
    fun hcarry hlt => ?_, fun hnonneg hlt => ?_⟩
  · rw [keySame (by omega), noLead, Nat.sub_zero]
  · obtain ⟨second, offset⟩ := borrow hneg
    exact ⟨by omega, by rw [keySame (by omega), second]⟩
  · obtain ⟨second, -⟩ := carry hcarry
    rw [keyBorrow hlt, second, BitVec.add_sub_cancel]
  · obtain ⟨second, offset⟩ := same hnonneg (by omega)
    exact ⟨second, by rw [keyBorrow (by omega), second]⟩

/-! ### The signed difference -/

/-- The difference of two second fields modulo 2^32, read as signed (R45). -/
theorem second_sub_toInt (a b : BitVec 32) :
    let raw : Nat := (a.toNat + (4294967296 - b.toNat)) % 4294967296
    (a - b).toInt = if raw < 2147483648 then (raw : Int) else (raw : Int) - 4294967296 := by
  intro raw
  have hraw : (a - b).toNat = raw := by rw [BitVec.toNat_sub, Nat.add_comm]
  rw [BitVec.toInt_eq_toNat_cond, hraw]
  split <;> split <;> omega

/-- A multiple of 10,000,000 and a difference of two offsets in range cancel only when both are 0. -/
theorem scaled_add_eq_zero_iff {a e : Int} (low : -9999999 ≤ e) (high : e ≤ 9999999) :
    a * 10000000 + e = 0 ↔ a = 0 ∧ e = 0 := by omega

/-- The second fields agree exactly when their signed difference is 0. -/
theorem second_sub_toInt_eq_zero_iff (a b : BitVec 32) : (a - b).toInt = 0 ↔ a = b := by
  rw [← BitVec.toInt_zero (w := 32), BitVec.toInt_inj]
  exact sub_eq_zero

/-- X is at Y exactly when the difference is 0 (R45). -/
theorem diff_eq_zero_iff {x y : SiteTime} (hx : x.offset < 10000000) (hy : y.offset < 10000000) :
    x.diff y = 0 ↔ x = y := by
  rw [SiteTime.diff, scaled_add_eq_zero_iff (by omega) (by omega), second_sub_toInt_eq_zero_iff, Int.sub_eq_zero,
    Int.ofNat_inj]
  obtain ⟨a, m⟩ := x
  obtain ⟨b, k⟩ := y
  rw [SiteTime.mk.injEq]

/-- Settles O50: the sign of the difference is read from R45's formula, which the offsets alone cannot bring across 0. -/
theorem signedTimeDifference : Obligations.SignedTimeDifference := by
  intro x y hx hy raw signed
  have hdiff : x.diff y = signed * 10000000 + ((x.offset : Int) - (y.offset : Int)) := by
    rw [SiteTime.diff, second_sub_toInt]
  have farApart : raw = 2147483648 → x.before y = true := fun h => by
    have hsigned : signed = -2147483648 := by simp [signed, h]
    rw [before_iff, hdiff, hsigned]
    omega
  exact ⟨hdiff, by omega, by omega, before_iff x y, diff_eq_zero_iff hx hy, due_iff x y, farApart, by decide⟩

end Sys2Proof.Machine
end

section
/-! PROOFS. The three-look history (R75): no operation that a verified word sets off touches the history, so after an item it
is what the item's own entry made of it. -/

namespace Sys2Proof.Machine

/-! ### Operations that leave the Directive Unit as it is -/

@[simp] theorem restLines_dir (n : Chan) (s : State) : (restLines n s).dir = s.dir := rfl

@[simp] theorem enterIdle_dir (n : Chan) (s : State) : (enterIdle n s).dir = s.dir := by simp [enterIdle_eq]

@[simp] theorem retireActive_dir (n : Chan) (o : LaunchOutcome) (s : State) : (retireActive n o s).dir = s.dir := by
  unfold retireActive
  split
  · exact retire_dir ..
  · rfl

@[simp] theorem endActive_dir (n : Chan) (o : LaunchOutcome) (s : State) : (endActive n o s).dir = s.dir := by
  simp [endActive]

@[simp] theorem cut_dir (n : Chan) (o : LaunchOutcome) (s : State) : (cut n o s).dir = s.dir := by simp [cut]

@[simp] theorem cutMuted_dir (n : Chan) (s : State) : (cutMuted n s).dir = s.dir := by
  unfold cutMuted
  cases (s.chan n).seq.state with
  | keying | sending | tail | hold => exact cut_dir ..
  | disabled | idle => rfl

@[simp] theorem redecide_dir (n : Chan) (s : State) : (redecide n s).dir = s.dir := by
  unfold redecide
  split
  · exact endActive_dir ..
  · rfl

@[simp] theorem retireAll_dir (n : Chan) (o : LaunchOutcome) (es : List Entry) (s : State) :
    (retireAll n o es s).dir = s.dir :=
  retireAll_induction (fun t => t.dir = s.dir) (fun m e p t h => (retire_dir m e p 0 t).trans h) n o es s rfl

@[simp] theorem flushChan_dir (n : Chan) (s : State) : (flushChan n s).dir = s.dir := by simp [flushChan]

/-- A loop over channels leaves the Directive Unit as it is when each of its turns does. -/
theorem forChans_dir {f : Chan → State → State} (h : ∀ n s, (f n s).dir = s.dir) (ns : List Chan) (s : State) :
    (forChans f ns s).dir = s.dir :=
  forChans_induction f (fun t => t.dir = s.dir) (fun n t ht => (h n t).trans ht) ns s rfl

@[simp] theorem flushMask_dir (m : BitVec 4) (s : State) : (flushMask m s).dir = s.dir := forChans_dir flushChan_dir _ _

/-! ### What directives make of the Directive Unit -/

@[simp] theorem setMuteMask_dir (m : BitVec 4) (s : State) : (setMuteMask m s).dir = { s.dir with muteMask := m } := by
  simp [setMuteMask, noteMuted]

@[simp] theorem clearLatched_dir (s : State) :
    (clearLatched s).dir = { s.dir with muteMask := 0, hold := false, dryMask := 0 } := by
  simp [clearLatched]

/-- No directive touches the three-look history (R81 to R85). -/
@[simp] theorem executeDirective_history (d : Directive) (s : State) :
    (executeDirective d s).dir.history = s.dir.history := by
  cases d with
  | idle | holdAdmission | resumeAdmission | dry | live => rfl
  | mute m => simp [executeDirective, forChans_dir cutMuted_dir]
  | unmute m => simp [executeDirective]
  | flush m => simp [executeDirective]
  | returnToNormal => simp [executeDirective]

/-- What a verified word sets off leaves the three-look history, in every mode (R77 to R79). -/
@[simp] theorem actOnVerified_history (w : DirWord) (s : State) :
    (actOnVerified w s).dir.history = s.dir.history := by
  unfold actOnVerified
  cases s.params.mode with
  | transparentChange => rfl
  | transparentVerified => simp
  | auto =>
    dsimp only
    split
    · cases directiveOf w with
      | none => simp
      | some d => simp
    · simp

/-! ### The three-look history -/

/-- Steps 1, 4 and 5 of R74 leave the history as step 3 made it. -/
theorem wordItem_history (w : DirWord) (continuous : Bool) (s : State) :
    (wordItem w continuous s).dir.history = historyAfter s.dir.history w continuous := by
  unfold wordItem
  dsimp only
  split <;> simp

theorem historyAfter_slip (history : List DirWord) (w : DirWord) : historyAfter history w false = [w] := rfl

/-- A word marked continuous is appended to a full history without its oldest word (R75). -/
theorem historyAfter_continuous {history : List DirWord} (w : DirWord) (bound : history.length ≤ 3) :
    historyAfter history w true = if history.length = 3 then history.tail ++ [w] else history ++ [w] := by
  by_cases full : history.length = 3
  · have nonempty : history ≠ [] := by rintro rfl; simp at full
    simp [historyAfter, full, List.tail_append_of_ne_nil nonempty]
  · have fits : ¬ 3 ≤ history.length := by omega
    simp [historyAfter, full, fits]

/-- An item leaves at most three words in the history (R75). -/
theorem historyAfter_length_le {history : List DirWord} (w : DirWord) (continuous : Bool) (bound : history.length ≤ 3) :
    (historyAfter history w continuous).length ≤ 3 := by
  cases continuous with
  | false => simp [historyAfter_slip]
  | true =>
    rw [historyAfter_continuous w bound]
    split
    · next full => simp [full]
    · next short => simpa using (by omega : history.length < 3)

/-- Settles O17: the history after a word item is the one its third step forms. -/
theorem threeLookHistory : Obligations.ThreeLookHistory := by
  intro s w bound
  simp only [wordItem_history]
  exact ⟨historyAfter_continuous w bound, historyAfter_slip _ w, rfl, historyAfter_length_le w true bound⟩

end Sys2Proof.Machine
end

section
/-! PROOFS. FETCH RECORDS (R155, R156): the start number's place in the Record Ring, read off the signed difference, and the reply. -/

namespace Sys2Proof.Machine

/-! ### The numbers of the records held -/

/-- A start is the number `k` before the next one exactly when its signed difference to that one is `-k`. -/
theorem nextSeq_sub_eq_iff {next start : BitVec 16} {k : Nat} (bound : k ≤ 64) :
    next - BitVec.ofNat 16 k = start ↔ (start - next).toInt = -(k : Int) := by
  rw [← BitVec.toNat_inj, BitVec.toInt_eq_toNat_cond, BitVec.toNat_sub, BitVec.toNat_sub, BitVec.toNat_ofNat]
  split <;> omega

/-- The record at place `i` of `h` lies `h - i` before the next number (R154). -/
theorem seqNo_getElem {s : State} (numbered : RingNumbered s) {i : Nat} (hi : i < s.ring.records.length) :
    s.ring.records[i].seqNo = s.ring.nextSeq - BitVec.ofNat 16 (s.ring.records.length - i) := by
  obtain ⟨-, numbers⟩ := numbered
  have place : (s.ring.records.map (fun r => r.seqNo))[i]? = (seqNumbers s.ring.nextSeq s.ring.records.length)[i]? := by
    rw [numbers]
  simpa [seqNumbers, hi] using place

/-- The record at place `i` of `h` is the one numbered start exactly when the difference is `i - h`. -/
theorem seqNo_getElem_eq_iff {s : State} (numbered : RingNumbered s) (start : BitVec 16) {i : Nat}
    (hi : i < s.ring.records.length) :
    s.ring.records[i].seqNo = start ↔ (start - s.ring.nextSeq).toInt = (i : Int) - s.ring.records.length := by
  have bound : s.ring.records.length ≤ 64 := numbered.1
  rw [seqNo_getElem numbered hi, nextSeq_sub_eq_iff (by omega)]
  omega

/-- With the start held, the records from the one numbered start on are those from its place on. -/
theorem dropWhile_seqNo_ne {s : State} (numbered : RingNumbered s) {start : BitVec 16}
    (low : -(s.ring.records.length : Int) ≤ (start - s.ring.nextSeq).toInt) (high : (start - s.ring.nextSeq).toInt < 0) :
    s.ring.records.dropWhile (fun r => r.seqNo ≠ start) =
      s.ring.records.drop ((s.ring.records.length : Int) + (start - s.ring.nextSeq).toInt).toNat := by
  have held : ((s.ring.records.length : Int) + (start - s.ring.nextSeq).toInt).toNat < s.ring.records.length := by omega
  rw [List.dropWhile_eq_drop_findIdx_not]
  congr 1
  rw [List.findIdx_eq held]
  constructor
  · simp only [ne_eq, decide_not, Bool.not_not, decide_eq_true_eq]
    rw [seqNo_getElem_eq_iff numbered]
    omega
  · intro j hj
    simp only [ne_eq, decide_not, Bool.not_not, decide_eq_false_iff_not]
    rw [seqNo_getElem_eq_iff numbered]
    omega

/-! ### The records a fetch returns, by the place of the start -/

theorem fetched_ahead {r : Ring} {start : BitVec 16} (ahead : 0 ≤ (start - r.nextSeq).toInt) (maximum : Nat) :
    fetched r start maximum = [] := if_pos ahead

theorem fetched_held {s : State} (numbered : RingNumbered s) {start : BitVec 16}
    (low : -(s.ring.records.length : Int) ≤ (start - s.ring.nextSeq).toInt) (high : (start - s.ring.nextSeq).toInt < 0)
    (maximum : Nat) :
    fetched s.ring start maximum = (s.ring.records.dropWhile (fun r => r.seqNo ≠ start)).take maximum := by
  rw [dropWhile_seqNo_ne numbered low high, fetched, if_neg (Int.not_le.mpr high), if_pos low]

theorem fetched_overwritten {r : Ring} {start : BitVec 16} (older : (start - r.nextSeq).toInt < -(r.records.length : Int))
    (maximum : Nat) : fetched r start maximum = r.records.take maximum := by
  rw [fetched, if_neg (by omega), if_neg (by omega)]

/-! ### The reply -/

theorem exec_fetchRecords {s : State} (accepts : Accepts s) (tag : Byte) (start : BitVec 16) (maximum : Byte) :
    exec (.fetchRecords tag start maximum) s =
      .next ((reqFetchRecords start maximum s).2.enqueue ⟨0xA8, tag, (reqFetchRecords start maximum s).1.body⟩) :=
  requestEvent_of_accepts accepts tag (.fetchRecords start maximum)

/-- A maximum out of range is field 2 (R169). -/
theorem reqFetchRecords_refused {maximum : Byte} (range : maximum.toNat = 0 ∨ 8 < maximum.toNat) (start : BitVec 16)
    (s : State) : reqFetchRecords start maximum s = (badField 2, s) := by
  have bad : ¬ (1 ≤ maximum.toNat ∧ maximum.toNat ≤ 8) := by omega
  exact withFields_of_some (by simp [firstBad, bad]) s _

theorem reqFetchRecords_returns {maximum : Byte} (low : 1 ≤ maximum.toNat) (high : maximum.toNat ≤ 8) (start : BitVec 16)
    (s : State) :
    reqFetchRecords start maximum s =
      (okWith (byte1 s.ring.records.length ++ byte2 s.ring.nextSeq ++ byte1 (fetched s.ring start maximum.toNat).length
        ++ (fetched s.ring start maximum.toNat).flatMap (fun r => r.bytes)), s) :=
  withFields_of_none (by simp [firstBad, low, high]) s _

/-- Settles O26: the maximum decides between refusal and reply, and the difference which records the reply carries. -/
theorem fetchRecordsReturns : Obligations.FetchRecordsReturns := by
  intro tag start maximum s accepts numbered d h reply
  rw [exec_fetchRecords accepts]
  refine ⟨fun range => ?_, fun low high => ?_⟩
  · rw [reqFetchRecords_refused range]
    rfl
  · rw [reqFetchRecords_returns low high]
    refine ⟨fun ahead => ?_, fun atLeast behind => ?_, fun older => ?_⟩
    · rw [fetched_ahead ahead]
      rfl
    · rw [fetched_held numbered atLeast behind]
      rfl
    · rw [fetched_overwritten older]
      rfl

end Sys2Proof.Machine
end

section
/-! PROOFS. The check sequence (R180): the register ends at 0 exactly when the bits that enter it are its own, so the check
value sent high byte first is the one that clears it; and the covered bytes of each frame. -/

namespace Sys2Proof.Machine

/-! ### The bits of a value, the highest first -/

/-- The first `n` bits of a value in the order in which the check sequence takes them. -/
def leadingBits {w : Nat} (n : Nat) (v : BitVec w) : List Bool := (List.range n).map v.getMsbD

@[simp] theorem leadingBits_length {w : Nat} (n : Nat) (v : BitVec w) : (leadingBits n v).length = n := by
  simp [leadingBits]

theorem leadingBits_succ {w : Nat} (n : Nat) (v : BitVec w) :
    leadingBits (n + 1) v = v.msb :: leadingBits n (v <<< 1) := by
  simp [leadingBits, List.range_succ_eq_map, BitVec.msb_eq_getMsbD_zero]

theorem leadingBits_append {w m : Nat} (v : BitVec w) (u : BitVec m) :
    leadingBits (w + m) (v ++ u) = leadingBits w v ++ leadingBits m u := by
  have high : ∀ i ∈ List.range w, (v ++ u).getMsbD i = v.getMsbD i := fun i hi => by
    rw [BitVec.getMsbD_append, if_neg (Nat.not_le.mpr (List.mem_range.mp hi))]
  have low : ∀ i ∈ List.range m, (v ++ u).getMsbD (w + i) = u.getMsbD i := fun i _ => by
    rw [BitVec.getMsbD_append, if_pos (Nat.le_add_right w i), Nat.add_sub_cancel_left]
  rw [leadingBits, List.range_add, List.map_append, List.map_map, List.map_congr_left high]
  exact congrArg _ (List.map_congr_left low)

theorem leadingBits_inj {w : Nat} {v u : BitVec w} : leadingBits w v = leadingBits w u ↔ v = u :=
  ⟨fun h => BitVec.eq_of_getMsbD_eq fun i hi => List.map_inj_left.mp h i (List.mem_range.mpr hi), fun h => h ▸ rfl⟩

/-! ### The register, bit by bit -/

theorem crcBit_same (r : BitVec 16) : crcBit r r.msb = r <<< 1 := by simp [crcBit]

theorem crcBit_differs {r : BitVec 16} {d : Bool} (h : r.msb ≠ d) : crcBit r d = (r <<< 1) ^^^ 0x1021 := by
  simp [crcBit, h]

/-- The bit 0 that 1021h sets has not left the register after fewer than 16 shifts. -/
theorem crcBit_differs_shiftLeft_ne_zero {r : BitVec 16} {d : Bool} (h : r.msb ≠ d) {n : Nat} (short : n < 16) :
    crcBit r d <<< n ≠ 0 := by
  intro cleared
  have entered : (crcBit r d <<< n).getLsbD n = true := by simp [crcBit_differs h, short]
  simp [cleared] at entered

/-- At most 16 data bits leave 0 exactly when they are the register's leading bits and the rest of it is 0. -/
theorem foldl_crcBit_eq_zero_iff (ds : List Bool) (r : BitVec 16) (short : ds.length ≤ 16) :
    ds.foldl crcBit r = 0 ↔ r <<< ds.length = 0 ∧ ds = leadingBits ds.length r := by
  induction ds generalizing r with
  | nil => simp [leadingBits]
  | cons d ds ih =>
    have shorter : ds.length < 16 := short
    rw [List.foldl_cons, ih _ shorter.le, List.length_cons, leadingBits_succ, List.cons.injEq]
    by_cases same : r.msb = d
    · subst same
      simp [crcBit_same, Nat.add_comm ds.length 1, BitVec.shiftLeft_add]
    · exact iff_of_false (fun ⟨cleared, _⟩ => crcBit_differs_shiftLeft_ne_zero same shorter cleared)
        (fun ⟨_, first, _⟩ => same first.symm)

/-! ### The register, byte by byte -/

theorem crcByte_eq_foldl (r : BitVec 16) (b : Byte) : crcByte r b = (leadingBits 8 b).foldl crcBit r := rfl

theorem crc16_concat (bytes : List Byte) (b : Byte) : crc16 (bytes ++ [b]) = crcByte (crc16 bytes) b := by
  simp [crc16]

/-- Two bytes bring the register to 0 exactly when, high byte first, they are its value. -/
theorem crcByte_crcByte_eq_zero_iff (r : BitVec 16) (high low : Byte) :
    crcByte (crcByte r high) low = 0 ↔ high ++ low = r := by
  have bits : crcByte (crcByte r high) low = (leadingBits 16 (high ++ low)).foldl crcBit r := by
    rw [leadingBits_append high low, List.foldl_append, crcByte_eq_foldl, crcByte_eq_foldl]
  have gone : r <<< 16 = 0 := BitVec.shiftLeft_eq_zero le_rfl
  rw [bits, foldl_crcBit_eq_zero_iff _ _ (leadingBits_length ..).le, leadingBits_length, leadingBits_inj]
  exact and_iff_right gone

theorem crc16_check_eq_zero_iff (bytes : List Byte) (high low : Byte) :
    crc16 (bytes ++ [high, low]) = 0 ↔ high ++ low = crc16 bytes := by
  rw [← crcByte_crcByte_eq_zero_iff, ← crc16_concat, ← crc16_concat, List.append_assoc]
  rfl

theorem byte2_join (w : BitVec 16) : w.extractLsb' 8 8 ++ w.extractLsb' 0 8 = w := by
  have adjacent : w.extractLsb' 8 8 ++ w.extractLsb' 0 8 = w.extractLsb' 0 (8 + 8) :=
    BitVec.extractLsb'_append_extractLsb'_eq_extractLsb' rfl
  exact adjacent.trans BitVec.extractLsb'_eq_self

/-- Covered bytes sent with their check value clear the register. -/
theorem crc16_append_check (bytes : List Byte) : crc16 (bytes ++ byte2 (crc16 bytes)) = 0 :=
  (crc16_check_eq_zero_iff ..).mpr (byte2_join _)

/-! ### The covered bytes of each frame -/

/-- A number of two bytes is sent as its quotient and its remainder by 256 (R179). -/
theorem nat2_eq (n : Nat) : nat2 n = [BitVec.ofNat 8 (n / 256), BitVec.ofNat 8 n] := by
  have high : (BitVec.ofNat 16 n).extractLsb' 8 8 = BitVec.ofNat 8 (n / 256) := by
    apply BitVec.eq_of_toNat_eq
    simp [Nat.shiftRight_eq_div_pow]
    omega
  have low : (BitVec.ofNat 16 n).extractLsb' 0 8 = BitVec.ofNat 8 n := by
    apply BitVec.eq_of_toNat_eq
    simp
  rw [nat2, byte2, high, low]

theorem frame_bytes_eq (f : Frame) :
    f.bytes = [0xA5] ++ f.covered ++ [(crc16 f.covered).extractLsb' 8 8, (crc16 f.covered).extractLsb' 0 8] := rfl

/-- The covered bytes of a control frame: body length, kind, tag and body (11 section 11.3). -/
theorem frame_covered_eq (f : Frame) :
    f.covered = [BitVec.ofNat 8 (f.body.length / 256), BitVec.ofNat 8 f.body.length, f.kind, f.tag] ++ f.body := by
  rw [Frame.covered, nat2_eq]
  rfl

/-- The covered bytes of a downlink superframe: number, flags, the word and the four slots (11 section 11.5). -/
theorem coveredBytes_eq (f : Superframe) :
    coveredBytes f = [f.number, f.flags, f.word.extractLsb' 24 8, f.word.extractLsb' 16 8,
      f.word.extractLsb' 8 8, f.word.extractLsb' 0 8] ++ f.slots[0].toList ++ f.slots[1].toList ++ f.slots[2].toList ++
      f.slots[3].toList := by
  have four : f.slots.toList = [f.slots[0], f.slots[1], f.slots[2], f.slots[3]] :=
    List.ext_getElem (by simp) fun i _ hi => by
      match i, hi with
      | 0, _ | 1, _ | 2, _ | 3, _ => simp
  simp [coveredBytes, four, byte4]

theorem coveredBytes_length (f : Superframe) : (coveredBytes f).length = 78 := by simp [coveredBytes_eq]

theorem checkGood_iff (f : Superframe) : checkGood f = true ↔ crc16 (coveredBytes f) = f.check := beq_iff_eq

theorem uplinkBytes_length (s : State) : s.uplinkBytes.length = 13 := rfl

/-- The sync word is not covered, and the check value follows the nine bytes that are (R66). -/
theorem uplinkBytes_drop_sync (s : State) :
    s.uplinkBytes.drop 2 = s.uplinkCovered ++ byte2 (crc16 s.uplinkCovered) := rfl

/-- Settles O51: the register's steps, the two check bytes that clear it, and the covered bytes of each frame. -/
theorem checkSequence : Obligations.CheckSequence := by
  have nineDigits : crc16 [0x31, 0x32, 0x33, 0x34, 0x35, 0x36, 0x37, 0x38, 0x39] = 0x29B1 := by decide +kernel
  have controlFrame : ∀ f : Frame, f.body.length < 65536 →
      let covered := [BitVec.ofNat 8 (f.body.length / 256), BitVec.ofNat 8 f.body.length, f.kind, f.tag] ++ f.body
      f.bytes = [0xA5] ++ covered ++ [(crc16 covered).extractLsb' 8 8, (crc16 covered).extractLsb' 0 8] := fun f _ => by
    rw [frame_bytes_eq, frame_covered_eq]
  have uplink : ∀ s : State, s.uplinkBytes.length = 13 ∧ crc16 (s.uplinkBytes.drop 2) = 0 := fun s =>
    ⟨uplinkBytes_length s, by rw [uplinkBytes_drop_sync, crc16_append_check]⟩
  exact ⟨fun _ _ => rfl, fun _ _ => rfl, rfl, crc16_concat, nineDigits, crc16_check_eq_zero_iff, controlFrame,
    coveredBytes_eq, fun f => ⟨coveredBytes_length f, checkGood_iff f⟩, uplink⟩

end Sys2Proof.Machine
end

section
/-! PROOFS. What an event can do: each event is a run of a few kinds of work, with the guard under which each is done. An
invariant that each kind of work keeps is kept by every event. -/

namespace Sys2Proof.Machine

/-! ### Removals, one after another -/

@[simp] theorem retireAll_nil (n : Chan) (o : LaunchOutcome) (s : State) : retireAll n o [] s = s := rfl

theorem retireAll_cons (n : Chan) (o : LaunchOutcome) (e : Entry) (es : List Entry) (s : State) :
    retireAll n o (e :: es) s = retireAll n o es (retire n e o 0 s) := rfl

/-- Removals take their entries out of the queue one by one and touch no other channel (R114). -/
theorem retireAll_chan (n : Chan) (o : LaunchOutcome) (es : List Entry) (s : State) (m : Chan) :
    (retireAll n o es s).chan m = if m = n then { s.chan n with queue := (s.chan n).queue.diff es } else s.chan m := by
  induction es generalizing s with
  | nil => by_cases h : m = n <;> simp [h]
  | cons e es ih =>
    rw [retireAll_cons, ih]
    by_cases h : m = n <;> simp [h, List.diff_cons]

/-- Removals return the chains to the free list's tail, in their order (R106). -/
theorem retireAll_pool (n : Chan) (o : LaunchOutcome) (es : List Entry) (s : State) :
    (retireAll n o es s).pool = ⟨s.pool.free ++ es.flatMap (fun e => e.chain), s.pool.cells⟩ := by
  induction es generalizing s with
  | nil => simp
  | cons e es ih =>
    rw [retireAll_cons, ih]
    simp

/-- Removals free the contexts of their ASSEMBLING entries and no other (R103). -/
theorem retireAll_context (n : Chan) (o : LaunchOutcome) (es : List Entry) (s : State) (k : Stream) :
    (retireAll n o es s).context k = if ∃ e ∈ es, e.state = .assembling ∧ e.source = k then none else s.context k := by
  induction es generalizing s with
  | nil => simp
  | cons e es ih =>
    rw [retireAll_cons, ih, retire_context]
    by_cases h : e.state = .assembling ∧ e.source = k
    · simp [h.1, h.2]
    · have h' : ¬ (e.state = .assembling ∧ k = e.source) := fun ⟨a, b⟩ => h ⟨a, b.symm⟩
      simp [h, h']

@[simp] theorem retireAll_tb (n : Chan) (o : LaunchOutcome) (es : List Entry) (s : State) :
    (retireAll n o es s).tb = s.tb :=
  retireAll_induction (fun t => t.tb = s.tb) (fun _ _ _ _ h => by simpa using h) n o es s rfl
@[simp] theorem retireAll_params (n : Chan) (o : LaunchOutcome) (es : List Entry) (s : State) :
    (retireAll n o es s).params = s.params :=
  retireAll_induction (fun t => t.params = s.params) (fun _ _ _ _ h => by simpa using h) n o es s rfl
@[simp] theorem retireAll_zones (n : Chan) (o : LaunchOutcome) (es : List Entry) (s : State) :
    (retireAll n o es s).zones = s.zones :=
  retireAll_induction (fun t => t.zones = s.zones) (fun _ _ _ _ h => by simpa using h) n o es s rfl
@[simp] theorem retireAll_channelMap (n : Chan) (o : LaunchOutcome) (es : List Entry) (s : State) :
    (retireAll n o es s).channelMap = s.channelMap :=
  retireAll_induction (fun t => t.channelMap = s.channelMap) (fun _ _ _ _ h => by simpa using h) n o es s rfl
@[simp] theorem retireAll_framer (n : Chan) (o : LaunchOutcome) (es : List Entry) (s : State) :
    (retireAll n o es s).framer = s.framer :=
  retireAll_induction (fun t => t.framer = s.framer) (fun _ _ _ _ h => by simpa using h) n o es s rfl
@[simp] theorem retireAll_pins (n : Chan) (o : LaunchOutcome) (es : List Entry) (s : State) :
    (retireAll n o es s).pins = s.pins :=
  retireAll_induction (fun t => t.pins = s.pins) (fun _ _ _ _ h => by simpa using h) n o es s rfl
@[simp] theorem retireAll_pending (n : Chan) (o : LaunchOutcome) (es : List Entry) (s : State) :
    (retireAll n o es s).pending = s.pending :=
  retireAll_induction (fun t => t.pending = s.pending) (fun _ _ _ _ h => by simpa using h) n o es s rfl
@[simp] theorem retireAll_out (n : Chan) (o : LaunchOutcome) (es : List Entry) (s : State) :
    (retireAll n o es s).port.out = s.port.out :=
  retireAll_induction (fun t => t.port.out = s.port.out) (fun _ _ _ _ h => by simpa using h) n o es s rfl

/-- Taking out of a list its members with a property leaves those without it, in their order. -/
theorem diff_filter_self {α : Type} [DecidableEq α] (p : α → Bool) (l : List α) :
    l.diff (l.filter p) = l.filter (fun a => !p a) := by
  have skip : ∀ (a : α) (es l : List α), (∀ e ∈ es, e ≠ a) → (a :: l).diff es = a :: l.diff es := by
    intro a es
    induction es with
    | nil => intros; simp
    | cons e es ih =>
      intro l h
      have hea : a ≠ e := (h e (by simp)).symm
      rw [List.diff_cons, List.erase_cons_tail (by simpa using hea), ih _ (fun x hx => h x (by simp [hx])),
        List.diff_cons]
  induction l with
  | nil => simp
  | cons a l ih =>
    by_cases h : p a = true
    · simp [h, ih]
    · rw [List.filter_cons_of_neg h, skip, ih]
      · simp [h]
      · rintro e he rfl
        exact h (List.mem_filter.mp he).2

/-- What is left of a queue once the members of an overlap set are displaced. -/
theorem retireAll_filter_queue (n : Chan) (o : LaunchOutcome) (p : Entry → Bool) (s : State) :
    ((retireAll n o ((s.chan n).queue.filter p) s).chan n).queue = (s.chan n).queue.filter (fun e => !p e) := by
  rw [retireAll_chan, if_pos rfl, diff_filter_self]

/-! ### The kinds of work -/

/-- Work aside from the batches: no channel, context, block, record or waiting frame is touched, of the Timebase at most the
pending time set, and the parameters and the counts stay in their ranges. -/
structure Aside (s t : State) : Prop where
  channels : t.channels = s.channels
  contexts : t.contexts = s.contexts
  pool : t.pool = s.pool
  ring : t.ring = s.ring
  out : t.port.out = s.port.out
  pending : t.pending = s.pending
  tb : t.tb = { s.tb with pendingSet := t.tb.pendingSet }
  params : ParamsInRange s → ParamsInRange t
  counts : CountsBounded s → CountsBounded t

/-- One piece of work of an event, with what holds when it is done. -/
inductive Work (s : State) : State → Prop where
  | aside {t : State} (h : Aside s t) : Work s t
  | record (b : RecordBody) : Work s (s.writeRecord b)
  | tick : Work s (refclkTick s)
  | edge : Work s (ppsEdge s)
  | check (h : s.tb.expires s.params = false) : Work s (changeTimebase (s.tb.check s.params) s)
  /-- Mutes, the fault level, the strobe, and the lines' return to rest. -/
  | flags (n : Chan) (q : Sequencer) (state : q.state = (s.chan n).seq.state) (sent : q.sent = (s.chan n).seq.sent)
      (dry : q.dry = (s.chan n).seq.dry) (lines : q.lines = (s.chan n).seq.lines ∨ q.lines = 0) : Work s (s.setSeq n q)
  | settings (n : Chan) (c : Settings) (free : (s.chan n).busy = false) : Work s (replaceSettings n c s)
  | key (n : Chan) (e : Entry) (rest : List Entry) (idle : (s.chan n).seq.state = .idle)
      (queue : (s.chan n).queue = e :: rest) (judged : judgeEntry n e s = none) : Work s (keyHead n (s.dryAtKeying n) s)
  | present (n : Chan) (awaits : (s.chan n).awaitsSymbol = true) : Work s (presentSymbol n s)
  | tail (n : Chan) (awaits : (s.chan n).awaitsTail = true) :
      Work s (s.setSeq n { (s.chan n).seq with state := .tail, lines := 0 })
  | hold (n : Chan) (inTail : (s.chan n).seq.state = .tail) : Work s (s.setSeq n { (s.chan n).seq with state := .hold })
  | finish (n : Chan) (o : LaunchOutcome) (keyed : (s.chan n).seq.state.keyed = true)
      (atRest : (s.chan n).seq.state ≠ .sending ∨ (s.chan n).seq.lines = 0) : Work s (endActive n o s)
  | takeUp (n : Chan) (h e : Entry) (rest : List Entry) (held : (s.chan n).seq.state = .hold)
      (queue : (s.chan n).queue = h :: e :: rest) (judged : judgeEntry n e s = none) :
      Work s (keyHead n (s.chan n).seq.dry (retireActive n (s.chan n).seq.launchOutcome s))
  | discardHeld (n : Chan) (h e : Entry) (rest : List Entry) (o : LaunchOutcome) (held : (s.chan n).seq.state = .hold)
      (queue : (s.chan n).queue = h :: e :: rest) :
      Work s (enterIdle n (retire n e o 0 (retireActive n (s.chan n).seq.launchOutcome s)))
  | remove (n : Chan) (e : Entry) (o : LaunchOutcome) (queued : e ∈ (s.chan n).queue)
      (waits : (s.chan n).seq.state.keyed = true → e.state ≠ .active) :
      Work s (retire n e o 0 s)
  | insert (src : Stream) (h : Header) (n : Chan) (x : Instants) (unopened : s.context src = none)
      (fresh : s.tagHeld h.tag = false) (enabled : (s.chan n).settings.enabled = true) (inRange : headerInRange h = true)
      (blocks : blocksFor h.n.toNat ≤ s.pool.free.length) (room : (s.chan n).queue.length + 1 ≤ 16)
      (disjoint : ∀ e ∈ (s.chan n).queue, intersects x.tk x.tend e.tk e.tend = false) : Work s (insertBatch src h n x s)
  | write (k : Stream) (c : Context) (e : Entry) (bytes : List Byte) (opened : s.context k = some c)
      (entry : contextEntry c s = some e) : Work s (writeSegment k c e bytes s)
  | endBatch (k : Stream) (c : Context) (e : Entry) (o : LaunchOutcome) (opened : s.context k = some c)
      (entry : contextEntry c s = some e) : Work s ((retire c.chan e o 0 s).setContext k none)
  | forget (k : Stream) (c : Context) (opened : s.context k = some c) (entry : contextEntry c s = none) :
      Work s (s.setContext k none)

/-- The work of an event: pieces of work, one after another. -/
abbrev Works : State → State → Prop := Relation.ReflTransGen Work

theorem Works.of {s t : State} (h : Work s t) : Works s t := .single h

/-- What each piece of work keeps, the work of an event keeps. -/
theorem Works.keeps {P : State → Prop} (h : ∀ s t, Work s t → P s → P t) {s t : State} (w : Works s t) (hs : P s) : P t := by
  induction w with
  | refl => exact hs
  | tail _ last ih => exact h _ _ last ih

theorem forChans_works {f : Chan → State → State} (h : ∀ n s, Works s (f n s)) (ns : List Chan) (s : State) :
    Works s (forChans f ns s) :=
  forChans_induction f (Works s) (fun n t w => w.trans (h n t)) ns s .refl

end Sys2Proof.Machine
end

section
/-! PROOFS. Each operation of the model as a run of the kinds of work. -/

namespace Sys2Proof.Machine

/-! ### Work aside from the batches -/

/-- An operation that leaves all that the invariants speak of is work aside. -/
theorem works_of_same {s t : State} (channels : t.channels = s.channels) (contexts : t.contexts = s.contexts)
    (pool : t.pool = s.pool) (ring : t.ring = s.ring) (out : t.port.out = s.port.out) (pending : t.pending = s.pending)
    (tb : t.tb = s.tb) (params : t.params = s.params) (counts : t.counts = s.counts) : Works s t :=
  .of (.aside ⟨channels, contexts, pool, ring, out, pending, by rw [tb],
    fun h => by simpa only [ParamsInRange, params] using h, fun h => by simpa only [CountsBounded, counts] using h⟩)

/-- Both branches being work, the choice is. -/
theorem ite_works {p : Prop} [Decidable p] {s a b : State} (yes : p → Works s a) (no : ¬p → Works s b) :
    Works s (if p then a else b) := by
  split
  · next h => exact yes h
  · next h => exact no h

/-- An operation that leaves all but the counts, which stay in their range. -/
theorem works_of_counts (s : State) {c : Counts} (bound : CountsBounded s → CountsBounded { s with counts := c }) :
    Works s { s with counts := c } :=
  .of (.aside ⟨rfl, rfl, rfl, rfl, rfl, rfl, rfl, id, bound⟩)

theorem pend_works (k : NoticeKind) (s : State) : Works s (s.pend k) :=
  works_of_same (by simp) (by simp) (by simp) (by simp) (by simp) (by simp) (by simp) (by simp) (by simp)

theorem pendIf_works (b : Bool) (k : NoticeKind) (s : State) : Works s (s.pendIf b k) :=
  works_of_same (by simp) (by simp) (by simp) (by simp) (by simp) (by simp) (by simp) (by simp) (by simp)

theorem setDir_works (d : Directives) (s : State) : Works s (s.setDir d) := works_of_same rfl rfl rfl rfl rfl rfl rfl rfl rfl

theorem setFramer_works (f : Framer) (s : State) : Works s (s.setFramer f) :=
  works_of_same rfl rfl rfl rfl rfl rfl rfl rfl rfl

theorem setZone_works (i : Byte) (e : ZoneEntry) (s : State) : Works s (s.setZone i e) :=
  works_of_same rfl rfl rfl rfl rfl rfl rfl rfl rfl

theorem setPwrwarn_works (b : Bool) (s : State) : Works s (setPwrwarn b s) :=
  works_of_same rfl rfl rfl rfl rfl rfl rfl rfl rfl

theorem setPort_works {p : Port} {s : State} (out : p.out = s.port.out) : Works s (s.setPort p) :=
  works_of_same rfl rfl rfl rfl out rfl rfl rfl rfl

/-! ### The sequencers -/

theorem setPortMute_works (n : Chan) (b : Bool) (s : State) : Works s (setPortMute n b s) :=
  (Works.of (.flags n { (s.chan n).seq with portMute := b } rfl rfl rfl (.inl rfl))).trans (pendIf_works ..)

theorem setMuteAfter_works (n : Chan) (b : Bool) (s : State) : Works s (setMuteAfter n b s) :=
  .of (.flags n _ rfl rfl rfl (.inl rfl))

theorem setFault_works (n : Chan) (b : Bool) (s : State) : Works s (setFault n b s) :=
  .of (.flags n _ rfl rfl rfl (.inl rfl))

theorem restLines_works (n : Chan) (s : State) : Works s (restLines n s) := .of (.flags n _ rfl rfl rfl (.inr rfl))

theorem cut_works {n : Chan} {s : State} (o : LaunchOutcome) (keyed : (s.chan n).seq.state.keyed = true) :
    Works s (cut n o s) :=
  (restLines_works n s).trans (Works.of (.finish n o (by simpa [restLines] using keyed) (.inr (by simp [restLines]))))

theorem release_works {n : Chan} {s : State} (keyed : (s.chan n).seq.state.keyed = true)
    (atRest : (s.chan n).seq.state ≠ .sending) : Works s (release n s) := .of (.finish n _ keyed (.inl atRest))

theorem cutMuted_works (n : Chan) (s : State) : Works s (cutMuted n s) := by
  unfold cutMuted
  cases h : (s.chan n).seq.state with
  | keying | sending | tail | hold => exact cut_works _ (by rw [h]; rfl)
  | disabled | idle => exact .refl

theorem cutFault_works (n : Chan) (s : State) : Works s (cutFault n s) := by
  unfold cutFault
  cases h : (s.chan n).seq.state with
  | keying | sending | hold => exact cut_works _ (by rw [h]; rfl)
  | tail | disabled | idle => exact .refl

theorem cutPower_works (n : Chan) (s : State) : Works s (cutPower n s) := by
  unfold cutPower
  cases h : (s.chan n).seq.state with
  | keying | hold => exact cut_works _ (by rw [h]; rfl)
  | sending | tail | disabled | idle => exact .refl

theorem cutTimebase_works (n : Chan) (s : State) : Works s (cutTimebase n s) := by
  unfold cutTimebase
  split
  · next keyed => exact cut_works _ keyed
  · exact .refl

theorem redecide_works (n : Chan) (s : State) : Works s (redecide n s) := by
  unfold redecide
  split
  · next h => exact release_works (by rw [h.1]; rfl) (by rw [h.1]; nofun)
  · exact .refl

/-! ### Removals -/

/-- Removals of entries that wait in a queue, each as often as it stands there. -/
theorem retireAll_works (n : Chan) (o : LaunchOutcome) (es : List Entry) (s : State)
    (queued : es.Subperm (s.chan n).queue) (waits : ∀ e ∈ es, e.state ≠ .active) : Works s (retireAll n o es s) := by
  induction es generalizing s with
  | nil => exact .refl
  | cons e es ih =>
    have rest : es.Subperm ((retire n e o 0 s).chan n).queue := by simpa using queued.erase e
    exact (Works.of (.remove n e o (queued.subset (by simp)) fun _ => waits e (by simp))).trans
      (ih _ rest fun x hx => waits x (by simp [hx]))

theorem flushChan_works (n : Chan) (s : State) : Works s (flushChan n s) := by
  refine (retireAll_works n .flushed _ s List.filter_sublist.subperm fun e he => ?_).trans (redecide_works n _)
  simpa using (List.mem_filter.mp he).2

theorem endAssembly_works {k : Stream} {c : Context} {s : State} (o : LaunchOutcome) (opened : s.context k = some c) :
    Works s (endAssembly k c o s) := by
  unfold endAssembly
  cases entry : contextEntry c s with
  | none => exact (Works.of (.forget k c opened entry)).trans (redecide_works ..)
  | some e => exact (Works.of (.endBatch k c e o opened entry)).trans (redecide_works ..)

/-! ### Admission and assembly -/

theorem readZone_works (i : Byte) (s : State) : Works s (readZone i s).2 := by
  unfold readZone
  split
  · exact .refl
  · refine (setZone_works i _ s).trans (works_of_counts _ ?_)
    rintro ⟨a, b, c, d, e, f, g⟩
    exact ⟨a, b, c, d, countInc_le e, f, g⟩
  · exact works_of_same (by simp) (by simp) (by simp) (by simp) (by simp) (by simp) (by simp) (by simp) (by simp)

/-- What a read of a zone entry leaves. -/
theorem readZone_keeps (i : Byte) (s : State) : (readZone i s).2.tb = s.tb ∧ (readZone i s).2.params = s.params ∧
    (readZone i s).2.channelMap = s.channelMap ∧ (readZone i s).2.channels = s.channels ∧
    (readZone i s).2.framer = s.framer ∧ (readZone i s).2.dir = s.dir ∧ (readZone i s).2.contexts = s.contexts ∧
    (readZone i s).2.pool = s.pool ∧ (readZone i s).2.ring = s.ring ∧ (readZone i s).2.pins = s.pins ∧
    (readZone i s).2.pending = s.pending ∧ (readZone i s).2.port.out = s.port.out := by
  unfold readZone
  split <;> simp

/-- Steps 8 to 10 find nothing against a header (R118, R119). -/
theorem routeCheck_eq_none {h : Header} {n : Chan} {s : State} : routeCheck h n s = none ↔
    (s.chan n).settings.enabled = true ∧ rateOf h.rate = (s.chan n).settings.rate ∧ s.tagHeld h.tag = false := by
  unfold routeCheck
  split_ifs <;> simp_all

/-- Steps 11 to 14 find nothing against a header (R120 to R123). -/
theorem placeCheck_eq_none {h : Header} {n : Chan} {x : Instants} {s : State} : placeCheck h n x s = none ↔
    windowCheck x.t s.tb.time (s.chan n).settings.lead s.params = none ∧
    displaceable h.priority.toNat (overlapSet x (s.chan n).queue) = true ∧
    (s.chan n).queue.length - (overlapSet x (s.chan n).queue).length + 1 ≤ 16 ∧
    blocksFor h.n.toNat ≤ s.pool.free.length + chainTotal (overlapSet x (s.chan n).queue) := by
  unfold placeCheck
  dsimp only
  cases windowCheck x.t s.tb.time (s.chan n).settings.lead s.params with
  | some o => simp
  | none => split_ifs <;> simp_all [Config.queueCapacity]

theorem commit_works {src : Stream} {h : Header} {n : Chan} {x : Instants} {s : State} (unopened : s.context src = none)
    (inRange : headerInRange h = true) (routed : routeCheck h n s = none) (placed : placeCheck h n x s = none) :
    Works s (commit src h n x s) := by
  obtain ⟨enabled, -, fresh⟩ := routeCheck_eq_none.mp routed
  obtain ⟨-, free, room, blocks⟩ := placeCheck_eq_none.mp placed
  have waits : ∀ e ∈ overlapSet x (s.chan n).queue, e.state ≠ .active := fun e he => by
    simp only [displaceable, List.all_eq_true, Bool.and_eq_true, decide_eq_true_eq] at free
    exact (free e he).2
  have queue : ((retireAll n .preempted (overlapSet x (s.chan n).queue) s).chan n).queue =
      (s.chan n).queue.filter (fun e => !intersects x.tk x.tend e.tk e.tend) := retireAll_filter_queue ..
  refine (retireAll_works n .preempted (overlapSet x (s.chan n).queue) s List.filter_sublist.subperm waits).trans
    ((Works.of (.insert src h n x ?_ ?_ ?_ inRange ?_ ?_ ?_)).trans (redecide_works n _))
  · simp [retireAll_context, unopened]
  · simp only [State.tagHeld, List.any_eq_false] at fresh ⊢
    intro m hm
    have := fresh m hm
    simp only [List.any_eq_true, not_exists, not_and] at this ⊢
    intro e he
    rw [retireAll_chan] at he
    split at he
    · next same => subst same; exact this e (List.diff_subset _ _ he)
    · exact this e he
  · simpa [retireAll_chan] using enabled
  · simpa only [retireAll_pool, chainTotal, List.length_flatMap, List.length_append] using blocks
  · rw [queue]
    have := List.length_eq_length_filter_add (l := (s.chan n).queue) (fun e => intersects x.tk x.tend e.tk e.tend)
    simp only [overlapSet] at room
    omega
  · intro e he
    rw [queue] at he
    simpa using (List.mem_filter.mp he).2

theorem earlyCheck_inRange {h : Header} {s : State} (passed : earlyCheck h s = none) : headerInRange h = true := by
  unfold earlyCheck at passed
  split at passed
  · cases passed
  · split at passed
    · cases passed
    · next hr => simpa using hr

theorem admitOn_works {src : Stream} {h : Header} {s : State} (n : Chan) (d : Int) (unopened : s.context src = none)
    (inRange : headerInRange h = true) : Works s (admitOn src h n d s).2 := by
  unfold admitOn
  cases routed : routeCheck h n s with
  | some o => exact .of (.record _)
  | none =>
    dsimp only
    cases placed : placeCheck h n (launchInstants h.s h.o.toNat h.n.toNat (rateOf h.rate) d (s.chan n).settings) s with
    | some o => exact .of (.record _)
    | none => exact commit_works unopened inRange routed placed

theorem admitZone_works {src : Stream} {h : Header} {s : State} (v : Option ZoneValue) (unopened : s.context src = none)
    (inRange : headerInRange h = true) : Works s (admitZone src h v s).2 := by
  unfold admitZone
  cases v with
  | none => exact .of (.record _)
  | some v =>
    dsimp only
    split
    · exact .of (.record _)
    · cases s.route h.logical with
      | none =>
        refine works_of_counts _ ?_
        rintro ⟨a, b, c, d, e, f, g⟩
        exact ⟨a, b, countInc_le c, d, e, f, g⟩
      | some n => exact admitOn_works n v.d unopened inRange

theorem admitHeader_works {src : Stream} {s : State} (h : Header) (unopened : s.context src = none) :
    Works s (admitHeader src h s).2 := by
  unfold admitHeader
  cases early : earlyCheck h s with
  | some o => exact .of (.record _)
  | none =>
    obtain ⟨-, -, -, -, -, -, contexts, -⟩ := readZone_keeps h.zone s
    exact (readZone_works h.zone s).trans
      (admitZone_works _ ((State.context_congr contexts src).trans unopened) (earlyCheck_inRange early))

@[simp] theorem enterIdle_contexts (n : Chan) (s : State) : (enterIdle n s).contexts = s.contexts := by simp [enterIdle_eq]

/-- The end of an active batch leaves a FREE context FREE. -/
theorem endActive_context_none {n : Chan} {o : LaunchOutcome} {s : State} {k : Stream} (h : s.context k = none) :
    (endActive n o s).context k = none := by
  unfold endActive retireActive
  rw [State.context_congr (enterIdle_contexts ..)]
  split
  · simp [retire_context, h]
  · exact h

theorem endAssembly_context (k : Stream) (c : Context) (o : LaunchOutcome) (s : State) :
    (endAssembly k c o s).context k = none := by
  unfold endAssembly redecide
  dsimp only
  split_ifs
  · exact endActive_context_none (by simp)
  · simp

theorem headerSegment_works (src : Stream) (h : Header) (s : State) : Works s (headerSegment src h s).2 := by
  unfold headerSegment
  cases opened : s.context src with
  | none => exact admitHeader_works h opened
  | some c => exact (endAssembly_works .truncated opened).trans (admitHeader_works h (endAssembly_context ..))

theorem dataSegment_works (k : Stream) (i : Nat) (bytes : List Byte) (s : State) : Works s (dataSegment k i bytes s).2 := by
  unfold dataSegment
  cases opened : s.context k with
  | none =>
    refine works_of_counts _ ?_
    rintro ⟨a, b, c, d, e, f, g⟩
    exact ⟨a, b, c, countInc_le d, e, f, g⟩
  | some c =>
    dsimp only
    split
    · exact .refl
    · split
      · exact endAssembly_works .gap opened
      · cases entry : contextEntry c s with
        | none => exact .refl
        | some e => exact .of (.write k c e bytes opened entry)

theorem dataSegments_works (k : Stream) (i : Nat) (pieces : List (List Byte)) (r : AssemblyReport) (s : State) :
    Works s (dataSegments k i pieces r s).2 := by
  induction pieces generalizing i r s with
  | nil => exact .refl
  | cons b rest ih => exact (dataSegment_works k i b s).trans (ih ..)

/-! ### Directives and the link -/

theorem setMuteMask_works (m : BitVec 4) (s : State) : Works s (setMuteMask m s) :=
  (setDir_works _ s).trans (pendIf_works ..)

theorem clearLatched_works (s : State) : Works s (clearLatched s) := (setMuteMask_works 0 s).trans (setDir_works ..)

theorem executeDirective_works (d : Directive) (s : State) : Works s (executeDirective d s) := by
  cases d with
  | idle => exact .refl
  | mute m => exact (setMuteMask_works _ s).trans (forChans_works cutMuted_works ..)
  | unmute m => exact setMuteMask_works _ s
  | holdAdmission | resumeAdmission | dry | live => exact setDir_works _ s
  | flush m => exact forChans_works flushChan_works ..
  | returnToNormal => exact clearLatched_works s

theorem actOnVerified_works (w : DirWord) (s : State) : Works s (actOnVerified w s) := by
  unfold actOnVerified
  cases s.params.mode with
  | transparentChange => exact .refl
  | transparentVerified => exact pend_works ..
  | auto =>
    dsimp only
    refine (pend_works .directive s).trans ?_
    split
    · cases directiveOf w with
      | none => exact .refl
      | some d => exact executeDirective_works d _
    · exact .refl

theorem wordItem_works (w : DirWord) (continuous : Bool) (s : State) : Works s (wordItem w continuous s) := by
  unfold wordItem
  exact (pendIf_works _ .directive s).trans ((setDir_works _ _).trans
    (ite_works (fun _ => (setDir_works ..).trans (actOnVerified_works ..)) fun _ => .refl))

theorem linkLost_works (s : State) : Works s (linkLost s) :=
  (clearLatched_works s).trans ((setDir_works ..).trans (pendIf_works ..))

theorem sendUplink_works (s : State) : Works s (sendUplink s) := setFramer_works ..

theorem takeSlot_works (x : Slot) (s : State) : Works s (takeSlot x s) := by
  unfold takeSlot
  cases slotItem x with
  | header k h => exact headerSegment_works ..
  | data k i bytes => exact dataSegment_works ..
  | nothing => exact .refl

theorem takeSlots_works (x : Vector Slot 4) (s : State) : Works s (takeSlots x s) := by
  unfold takeSlots
  induction x.toList generalizing s with
  | nil => exact .refl
  | cons y ys ih => exact (takeSlot_works y s).trans (ih _)

theorem processSuperframe_works (f : Superframe) (s : State) : Works s (processSuperframe f s) :=
  (setFramer_works ..).trans ((wordItem_works ..).trans (takeSlots_works ..))

theorem enterHunt_works (s : State) : Works s (enterHunt s) :=
  (setFramer_works ..).trans ((linkLost_works _).trans (pend_works ..))

theorem losePosition_works (b : Bool) (s : State) : Works s (losePosition b s) :=
  (setFramer_works _ s).trans (setDir_works ..)

theorem judgeHunt_works (f : Superframe) (s : State) : Works s (judgeHunt f s) := by
  unfold judgeHunt
  split
  · exact setFramer_works ..
  · exact .refl

theorem judgeConfirm_works (f : Superframe) (s : State) : Works s (judgeConfirm f s) := by
  unfold judgeConfirm
  split
  · exact (setFramer_works _ s).trans (ite_works (fun _ => (setFramer_works ..).trans (pend_works ..)) fun _ => .refl)
  · exact enterHunt_works s

theorem judgeSync_works (f : Superframe) (s : State) : Works s (judgeSync f s) := by
  unfold judgeSync
  split
  · split
    · exact processSuperframe_works ..
    · exact losePosition_works ..
  · exact (losePosition_works false s).trans (setFramer_works ..)

theorem judgeFlywheel_works (f : Superframe) (s : State) : Works s (judgeFlywheel f s) := by
  unfold judgeFlywheel
  split
  · split
    · exact (setFramer_works _ s).trans (processSuperframe_works ..)
    · exact losePosition_works ..
  · exact (losePosition_works false s).trans ((setFramer_works _ _).trans
      (ite_works (fun _ => enterHunt_works _) fun _ => .refl))

theorem superframeEnd_works (searched : Nat) (f : Superframe) (s : State) : Works s (superframeEnd searched f s) := by
  unfold superframeEnd
  cases s.framer.sync with
  | hunt =>
    dsimp only
    split
    · exact (setFramer_works _ s).trans (judgeHunt_works ..)
    · exact .refl
  | confirm => exact (setFramer_works _ s).trans (judgeConfirm_works ..)
  | sync => exact (setFramer_works _ s).trans ((judgeSync_works ..).trans (sendUplink_works _))
  | flywheel => exact (setFramer_works _ s).trans ((judgeFlywheel_works ..).trans (sendUplink_works _))

theorem uplinkInterval_works (s : State) : Works s (uplinkInterval s) := by
  unfold uplinkInterval
  split
  · exact .refl
  · exact (setFramer_works _ s).trans (sendUplink_works _)

end Sys2Proof.Machine
end

section
/-! PROOFS. Requests as runs of the kinds of work, and what each command can leave. -/

namespace Sys2Proof.Machine

/-! ### Requests -/

/-- A request that checks its fields does its work only where every field is in range. -/
theorem withFields_works {checks : List Bool} {s : State} {go : Reply × State}
    (passed : (∀ b ∈ checks, b = true) → Works s go.2) : Works s (withFields checks s go).2 := by
  unfold withFields
  cases h : firstBad 1 checks with
  | some i => exact .refl
  | none => exact passed ((firstBad_eq_none 1).mp h)

/-- The same choice for the state beside a reply. -/
theorem ite_snd_works {p : Prop} [Decidable p] {s : State} {a b : Reply × State} (yes : p → Works s a.2)
    (no : ¬p → Works s b.2) : Works s (if p then a else b).2 := by
  split
  · next h => exact yes h
  · next h => exact no h

/-- Fields that pass their checks give a record in its ranges (R167). -/
theorem paramsOf_inRange {p : ParamFields} (passed : ∀ b ∈ paramChecks p, b = true) (s : State) :
    ParamsInRange { s with params := paramsOf p } := by
  simp only [paramChecks, List.mem_cons, List.not_mem_nil, or_false, forall_eq_or_imp, forall_eq, decide_eq_true_eq]
    at passed
  obtain ⟨site, -, -, window, slew, holdover, guardG, horizon, -⟩ := passed
  exact ⟨site, window.1, window.2, slew.1, slew.2, holdover.1, holdover.2, guardG.1, guardG.2, horizon.1, horizon.2⟩

theorem replaceParams_works {p : ParamFields} (passed : ∀ b ∈ paramChecks p, b = true) (s : State) :
    Works s (replaceParams (paramsOf p) s) := by
  refine .of (.aside ?_)
  unfold replaceParams
  constructor <;> dsimp only <;> first
    | exact fun _ => paramsOf_inRange passed s
    | (split_ifs <;> first | rfl | exact id)

theorem readZonesFrom_works (i count : Nat) (s : State) : Works s (readZonesFrom i count s).2 := by
  induction count generalizing i s with
  | zero => exact .refl
  | succ count ih => exact (readZone_works _ s).trans (ih ..)

theorem writeZonesFrom_works (i : Nat) (entries : List (List Byte)) (s : State) :
    Works s (writeZonesFrom i entries s) := by
  induction entries generalizing i s with
  | nil => exact .refl
  | cons b rest ih => exact (setZone_works _ _ s).trans (ih ..)

theorem muteNowChan_works (n : Chan) (s : State) : Works s (muteNowChan n s) :=
  (setPortMute_works n true s).trans ((setMuteAfter_works ..).trans (cutMuted_works ..))

theorem muteAfterChan_works (n : Chan) (s : State) : Works s (muteAfterChan n s) := by
  unfold muteAfterChan
  split
  · exact .refl
  · cases h : (s.chan n).seq.state with
    | idle => exact setPortMute_works ..
    | keying | sending | tail | disabled => exact setMuteAfter_works ..
    | hold =>
      have held : ((setMuteAfter n true s).chan n).seq.state = .hold := by simp [setMuteAfter, h]
      exact (setMuteAfter_works ..).trans (release_works (by rw [held]; rfl) (by rw [held]; nofun))

theorem unmuteChan_works (n : Chan) (s : State) : Works s (unmuteChan n s) :=
  (setMuteAfter_works ..).trans (setPortMute_works ..)

/-- The entry found for a tag waits in the queue it is found in. -/
theorem findTag_mem {tag : BitVec 16} {s : State} {n : Chan} {e : Entry} (h : findTag tag s = some (n, e)) :
    e ∈ (s.chan n).queue ∧ e.tag = tag := by
  obtain ⟨m, -, hm⟩ := List.exists_of_findSome?_eq_some h
  obtain ⟨e', found, eq⟩ := Option.map_eq_some_iff.mp hm
  obtain ⟨rfl, rfl⟩ := Prod.mk.inj eq
  exact ⟨List.mem_of_find?_eq_some found, by simpa using List.find?_some found⟩

theorem reqCancel_works (batch : BitVec 16) (s : State) : Works s (reqCancel batch s).2 := by
  unfold reqCancel
  cases h : findTag batch s with
  | none => exact .refl
  | some found =>
    obtain ⟨n, e⟩ := found
    exact ite_snd_works (fun _ => .refl) fun waits =>
      (Works.of (.remove n e .cancelled (findTag_mem h).1 fun _ => waits)).trans (redecide_works n _)

theorem reqInjectData_works (batch : BitVec 16) (first count : Byte) (segments : List Byte) (s : State) :
    Works s (reqInjectData batch first count segments s).2 := by
  unfold reqInjectData
  refine ite_snd_works (fun _ => .refl) fun _ => ite_snd_works (fun _ => .refl) fun _ =>
    ite_snd_works (fun _ => .refl) fun _ => ite_snd_works (fun _ => .refl) fun _ => ?_
  cases s.context 8 with
  | none => exact .refl
  | some c => exact ite_snd_works (fun _ => .refl) fun _ => dataSegments_works ..

theorem reqWriteZones_works (first count : Byte) (entries : List Byte) (s : State) :
    Works s (reqWriteZones first count entries s).2 := by
  unfold reqWriteZones
  refine ite_snd_works (fun _ => .refl) fun _ => ite_snd_works (fun _ => .refl) fun _ =>
    ite_snd_works (fun _ => .refl) fun _ => ite_snd_works (fun _ => .refl) fun _ => ?_
  split
  · exact .refl
  · exact writeZonesFrom_works ..

theorem runPlain_works (r : Request) (s : State) : Works s (runPlain r s).2 := by
  cases r with
  | identify | getParameters | readChannelMap | readTime | readCounts | reset _ | chain _ _ _ => exact .refl
  | setParameters p => exact withFields_works fun passed => replaceParams_works passed s
  | getChannel ch | queryQueue ch => exact withFields_works fun _ => .refl
  | fetchRecords start maximum => exact withFields_works fun _ => .refl
  | setChannel ch f =>
    exact withFields_works fun _ => ite_snd_works (fun _ => .refl) fun free => .of (.settings _ _ (by simpa using free))
  | readZones first count =>
    exact ite_snd_works (fun _ => .refl) fun _ => ite_snd_works (fun _ => .refl) fun _ =>
      ite_snd_works (fun _ => .refl) fun _ => readZonesFrom_works ..
  | writeZones first count entries => exact reqWriteZones_works ..
  | writeChannelMap entries => exact withFields_works fun _ => works_of_same rfl rfl rfl rfl rfl rfl rfl rfl rfl
  | setTime second =>
    exact ite_snd_works (fun _ => .refl) fun _ => .of (.aside ⟨rfl, rfl, rfl, rfl, rfl, rfl, rfl, id, id⟩)
  | mute mask mode =>
    refine withFields_works fun _ => ?_
    dsimp only
    split
    · exact forChans_works muteNowChan_works ..
    · exact forChans_works muteAfterChan_works ..
  | unmute mask => exact withFields_works fun _ => forChans_works unmuteChan_works ..
  | flush mask => exact withFields_works fun _ => forChans_works flushChan_works ..
  | cancel batch => exact reqCancel_works batch s
  | injectHeader h => exact headerSegment_works 8 h s
  | injectData batch first count segments => exact reqInjectData_works ..
  | clearCounts =>
    exact works_of_counts _ fun _ => ⟨Nat.zero_le _, fun i => by simp [Counts.resetValue], Nat.zero_le _, Nat.zero_le _,
      Nat.zero_le _, Nat.zero_le _, Nat.zero_le _⟩
  | readLinkStatus clear =>
    refine withFields_works fun _ => ?_
    dsimp only
    split
    · exact setFramer_works ..
    · exact .refl
  | setReplyWord w => exact withFields_works fun _ => setDir_works ..

theorem runSub_works (kind : Byte) (body : List Byte) (s : State) : Works s (runSub kind body s).2 := by
  unfold runSub
  refine ite_snd_works (fun _ => .refl) fun _ => ?_
  cases parseRequest kind body with
  | request r => exact runPlain_works r s
  | badKind | badLength => exact .refl

theorem runSubs_works (stop stopped : Bool) (subs : List (Byte × List Byte)) (s : State) :
    Works s (runSubs stop stopped subs s).2 := by
  induction subs generalizing stopped s with
  | nil => cases stopped <;> exact .refl
  | cons sub rest ih =>
    obtain ⟨kind, body⟩ := sub
    cases stopped with
    | true => exact ih true s
    | false => exact (runSub_works kind body s).trans (ih ..)

theorem runRequest_works (r : Request) (s : State) : Works s (runRequest r s).2 := by
  cases r with
  | chain stop count subs =>
    refine withFields_works fun _ => ?_
    cases parseSubs count.toNat subs with
    | none => exact .refl
    | some parts => exact runSubs_works ..
  | reset option => exact withFields_works fun _ => setPort_works rfl
  | _ => exact runPlain_works _ s

theorem runFrame_works (kind : Byte) (body : List Byte) (s : State) : Works s (runFrame kind body s).2 := by
  unfold runFrame
  cases parseRequest kind body with
  | request r => exact runRequest_works r s
  | badKind | badLength => exact .refl

/-! ### The other events -/

theorem keyInstant_works (n : Chan) (s : State) : Works s (keyInstant n s) := by
  unfold keyInstant
  split
  · next e rest idle queue =>
    refine ite_works (fun _ => ?_) fun _ => .refl
    cases judged : judgeEntry n e s with
    | none => exact .of (.key n e rest idle queue judged)
    | some o => exact .of (.remove n e o (by simp [queue]) (by rw [idle]; nofun))
  · exact .refl

theorem holdKeyInstant_works (n : Chan) (s : State) : Works s (holdKeyInstant n s) := by
  unfold holdKeyInstant
  split
  · next h e rest held queue =>
    refine ite_works (fun _ => ?_) fun _ => .refl
    dsimp only
    cases judged : judgeEntry n e s with
    | none =>
      have dry : ((retireActive n (s.chan n).seq.launchOutcome s).chan n).seq.dry = (s.chan n).seq.dry := by
        simp [retireActive, queue]
      simp only [dry]
      exact .of (.takeUp n h e rest held queue judged)
    | some o => exact .of (.discardHeld n h e rest o held queue)
  · exact .refl

theorem symbolInstant_works (n : Chan) (s : State) : Works s (symbolInstant n s) :=
  ite_works (fun h => .of (.present n (Bool.and_eq_true .. ▸ h).1)) fun _ => .refl

theorem strobeWithdrawal_works (n : Chan) (s : State) : Works s (strobeWithdrawal n s) :=
  ite_works (fun _ => .of (.flags n _ rfl rfl rfl (.inl rfl))) fun _ => .refl

theorem tailStart_works (n : Chan) (s : State) : Works s (tailStart n s) :=
  ite_works (fun h => .of (.tail n (Bool.and_eq_true .. ▸ h).1)) fun _ => .refl

theorem endOfAirtime_works (n : Chan) (s : State) : Works s (endOfAirtime n s) :=
  ite_works (fun h => ite_works (fun _ => .of (.hold n h.1)) fun _ =>
    release_works (by rw [h.1]; rfl) (by rw [h.1]; nofun)) fun _ => .refl

theorem faultAssert_works (n : Chan) (s : State) : Works s (faultAssert n s) :=
  ite_works (fun _ => .refl) fun _ => (setFault_works ..).trans ((pend_works ..).trans (cutFault_works ..))

theorem faultClear_works (n : Chan) (s : State) : Works s (faultClear n s) :=
  ite_works (fun _ => (setFault_works ..).trans (pend_works ..)) fun _ => .refl

theorem pwrwarnAssert_works (s : State) : Works s (pwrwarnAssert s) :=
  ite_works (fun _ => .refl) fun _ => (setPwrwarn_works ..).trans ((pend_works ..).trans (forChans_works cutPower_works ..))

theorem pwrwarnRelease_works (s : State) : Works s (pwrwarnRelease s) :=
  ite_works (fun _ => (setPwrwarn_works ..).trans (pend_works ..)) fun _ => .refl

theorem clearingComplete_works (s : State) : Works s (clearingComplete s) :=
  ite_works (fun _ => works_of_same (by simp) (by simp) (by simp) (by simp) (by simp) (by simp) (by simp) (by simp)
    (by simp)) fun _ => .refl

theorem disturbZone_works (zone : Byte) (bits : List Nat) (s : State) : Works s (disturbZone zone bits s) :=
  setZone_works ..

theorem abandonFrame_works (s : State) : Works s (abandonFrame s) := by
  refine (setPort_works (p := { s.port with frame := none, timeout := none }) rfl).trans (works_of_counts _ ?_)
  rintro ⟨a, b, c, d, e, f, g⟩
  exact ⟨a, b, c, d, e, countInc_le f, g⟩

theorem overrun_works (s : State) :
    Works s { s with counts := { s.counts with overruns := countInc s.counts.overruns } } := by
  refine works_of_counts _ ?_
  rintro ⟨a, b, c, d, e, f, g⟩
  exact ⟨a, b, c, d, e, f, countInc_le g⟩

theorem interByteTimeout_works (s : State) : Works s (interByteTimeout s) := by
  unfold interByteTimeout
  split
  · exact ite_works (fun _ => abandonFrame_works s) fun _ => .refl
  · exact .refl

/-! ### Events -/

/-- What a command can leave: its work with the end of the event, or with the reply that it put into the output queue; the cuts
of a holdover expiry; a frame less in the output queue; a reset. While RESET_N is asserted only levels follow. -/
inductive Event (s : State) : State → Prop where
  | level {t : State} (work : Works s t) (port : t.port = s.port) : Event s t
  | done {t : State} (work : Works s t) : Event s (settle t)
  | expire (h : s.tb.expires s.params = true) :
      Event s (settle (forChans cutTimebase allChans (changeTimebase (s.tb.check s.params) s)))
  | reply {t : State} (f : Frame) (room : s.port.out.length < 4) (work : Works s t) : Event s (t.enqueue f)
  | sent (f : Frame) (rest : List Frame) (out : s.port.out = f :: rest) :
      Event s (settle (s.setPort { s.port with out := rest }))
  | assertReset : Event s (assertReset s)
  | endReset (straps : Straps) : Event s (endReset straps s)
  | fullReset (straps : Straps) (p : Port) : Event s (settle (requestedFullReset straps (s.setPort p)))
  | controlReset (p : Port) : Event s (settle (controlReset (s.setPort p)))

theorem Event.idle (s : State) : Event s s := .level .refl rfl

/-- A command that is an event does its work, or nothing while RESET_N is asserted (log 3). -/
theorem event_of_works {f : State → State} {s t : State} (work : Works s (f s)) (h : event f s = .next t) : Event s t := by
  cases asserted : s.pins.resetN with
  | true => rw [event_asserted asserted] at h; cases h; exact .idle s
  | false => rw [event_running asserted] at h; cases h; exact .done work

/-- The same for a command that follows a level. -/
theorem event_of_pin {level act : State → State} {s t : State} (follows : Works s (level s))
    (port : (level s).port = s.port) (work : Works s (act s)) (h : pinEvent level act s = .next t) : Event s t := by
  unfold pinEvent at h
  split at h <;> cases h
  · exact .level follows port
  · exact .done work

/-- A good frame is discarded, counted as an overrun, or answered (R165, R176). -/
theorem settle_acceptFrame_event {kind tag : Byte} {run : State → Reply × State} {s u : State} (before : Works s u)
    (out : u.port.out = s.port.out) (work : Works u (run u).2) : Event s (settle (acceptFrame kind tag run u)) := by
  unfold acceptFrame
  split
  · exact .done before
  · split
    · exact .done (before.trans (overrun_works u))
    · next room =>
      rw [settle_enqueue]
      exact .reply _ (by simpa [Config.outputCapacity, out] using room) (before.trans work)

theorem event_of_frame {kind tag : Byte} {run : State → Reply × State} {s t : State} (work : Works s (run s).2)
    (h : event (acceptFrame kind tag run) s = .next t) : Event s t := by
  cases asserted : s.pins.resetN with
  | true => rw [event_asserted asserted] at h; cases h; exact .idle s
  | false => rw [event_running asserted] at h; cases h; exact settle_acceptFrame_event .refl rfl work

theorem event_of_request {tag : Byte} {r : Request} {s t : State} (h : requestEvent tag r s = .next t) : Event s t :=
  event_of_frame (runRequest_works r s) h

/-- A byte is stored, dropped, or ends its frame (R162 to R164). -/
theorem settle_byteArrival_event (b : Byte) (framingError : Bool) (s : State) :
    Event s (settle (byteArrival b framingError s)) := by
  unfold byteArrival
  split
  · exact .done .refl
  · split
    · exact .done (ite_works (fun _ => setPort_works rfl) fun _ => .refl)
    · split
      · exact .done (abandonFrame_works s)
      · unfold frameByte
        split
        · exact .done (abandonFrame_works s)
        · split
          · unfold completeFrame
            dsimp only
            split
            · exact settle_acceptFrame_event (setPort_works rfl) rfl (runFrame_works ..)
            · exact .done (abandonFrame_works s)
          · exact .done (setPort_works rfl)

theorem settle_midSecondCheck_event (s : State) : Event s (settle (midSecondCheck s)) := by
  unfold midSecondCheck
  split
  · dsimp only
    cases expires : s.tb.expires s.params with
    | false => exact .done (.of (.check expires))
    | true => exact .expire expires
  · exact .done .refl

/-- A frame leaves the output queue, and with the last one a pending reset takes place (R165, R176). -/
theorem settle_frameTransmitted_event (straps : Straps) (s : State) : Event s (settle (frameTransmitted straps s)) := by
  unfold frameTransmitted
  cases out : s.port.out with
  | nil => exact .done .refl
  | cons f rest =>
    dsimp only
    split
    · unfold takePendingReset
      split
      · exact .fullReset straps _
      · exact .controlReset _
      · exact .sent f rest out
    · exact .sent f rest out

/-- Every command is one of these events. -/
theorem exec_event {c : Instr} {s t : State} (h : exec c s = .next t) : Event s t := by
  have running {f : State → State} (settled : Event s (settle (f s))) (h : event f s = .next t) : Event s t := by
    cases asserted : s.pins.resetN with
    | true => rw [event_asserted asserted] at h; cases h; exact .idle s
    | false => rw [event_running asserted] at h; cases h; exact settled
  cases c with
  | ppsEdge => exact event_of_works (.of .edge) h
  | midSecondCheck => exact running (settle_midSecondCheck_event s) h
  | fullReset cause =>
    cases cause with
    | resetN => cases h; exact .assertReset
    | request straps =>
      refine running ?_ h
      split
      · exact .fullReset straps s.port
      · exact .done .refl
  | resetNRelease straps =>
    cases h
    split
    · exact .endReset straps
    · exact .idle s
  | clearingComplete => exact event_of_works (clearingComplete_works s) h
  | superframeEnd searched frame => exact event_of_works (superframeEnd_works ..) h
  | uplinkIntervalExpiry => exact event_of_works (uplinkInterval_works s) h
  | controlByteArrival b framingError => exact running (settle_byteArrival_event b framingError s) h
  | interByteTimeout => exact event_of_works (interByteTimeout_works s) h
  | unknownKind kind tag body => exact event_of_frame (runFrame_works ..) h
  | frameTransmitted straps => exact running (settle_frameTransmitted_event _ s) h
  | controlReset =>
    refine running ?_ h
    split
    · exact .controlReset s.port
    · exact .done .refl
  | keyInstant n => exact event_of_works (keyInstant_works n s) h
  | holdKeyInstant n => exact event_of_works (holdKeyInstant_works n s) h
  | symbolInstant n => exact event_of_works (symbolInstant_works n s) h
  | strobeWithdrawal n => exact event_of_works (strobeWithdrawal_works n s) h
  | tailStart n => exact event_of_works (tailStart_works n s) h
  | endOfAirtime n => exact event_of_works (endOfAirtime_works n s) h
  | exciterFaultAssert n => exact event_of_pin (setFault_works ..) rfl (faultAssert_works n s) h
  | exciterFaultClear n => exact event_of_pin (setFault_works ..) rfl (faultClear_works n s) h
  | pwrwarnAssert => exact event_of_pin (setPwrwarn_works true s) rfl (pwrwarnAssert_works s) h
  | pwrwarnRelease => exact event_of_pin (setPwrwarn_works false s) rfl (pwrwarnRelease_works s) h
  | refclkTick => exact event_of_works (.of .tick) h
  | storageDisturbance zone bits => exact event_of_works (disturbZone_works zone bits s) h
  | _ => exact event_of_request h

end Sys2Proof.Machine
end

section
/-! PROOFS. The control reset field by field (R177), and invariants: what every kind of work, the resets and the output queue
keep, every step keeps. -/

namespace Sys2Proof.Machine

/-! ### Records, one after another -/

/-- Records leave in the ring, the counts and the port what depends on no more of the state than these, the parameters and
site time (R154, R157, R158). -/
theorem writeRecords_congr (bs : List RecordBody) {s t : State} (h1 : t.tb = s.tb) (h2 : t.params = s.params)
    (h3 : t.ring = s.ring) (h4 : t.counts = s.counts) (h5 : t.port = s.port) :
    (writeRecords bs t).ring = (writeRecords bs s).ring ∧ (writeRecords bs t).counts = (writeRecords bs s).counts ∧
    (writeRecords bs t).port = (writeRecords bs s).port := by
  induction bs generalizing s t with
  | nil => exact ⟨h3, h4, h5⟩
  | cons b bs ih =>
    obtain ⟨ring, counts, port⟩ := State.writeRecord_congr b h1 h2 h3 h4 h5
    exact ih (by simpa using h1) (by simpa using h2) ring counts port

theorem writeRecords_append (as bs : List RecordBody) (s : State) :
    writeRecords (as ++ bs) s = writeRecords bs (writeRecords as s) := List.foldl_append

@[simp] theorem writeRecords_tb (bs : List RecordBody) (s : State) : (writeRecords bs s).tb = s.tb := by
  induction bs generalizing s with
  | nil => rfl
  | cons b bs ih => exact (ih _).trans (by simp)

@[simp] theorem writeRecords_params (bs : List RecordBody) (s : State) : (writeRecords bs s).params = s.params := by
  induction bs generalizing s with
  | nil => rfl
  | cons b bs ih => exact (ih _).trans (by simp)

/-- Records are appended to the ring one after another (R154). -/
theorem writeRecords_records (bs : List RecordBody) (s : State) :
    (writeRecords bs s).ring.records = (bs.foldl (fun r b => r.append b s.tb.time) s.ring).records ∧
    (writeRecords bs s).ring.nextSeq = (bs.foldl (fun r b => r.append b s.tb.time) s.ring).nextSeq := by
  have marks : ∀ (bs : List RecordBody) (x : SiteTime) (r r' : Ring), r'.records = r.records → r'.nextSeq = r.nextSeq →
      (bs.foldl (fun r b => r.append b x) r').records = (bs.foldl (fun r b => r.append b x) r).records ∧
      (bs.foldl (fun r b => r.append b x) r').nextSeq = (bs.foldl (fun r b => r.append b x) r).nextSeq := by
    intro bs x
    induction bs with
    | nil => exact fun r r' h1 h2 => ⟨h1, h2⟩
    | cons b bs ih => exact fun r r' h1 h2 => ih _ _ (by simp [Ring.append, h1, h2]) (by simp [Ring.append, h2])
  induction bs generalizing s with
  | nil => exact ⟨rfl, rfl⟩
  | cons b bs ih =>
    have first : (s.writeRecord b).ring.records = (s.ring.append b s.tb.time).records ∧
        (s.writeRecord b).ring.nextSeq = (s.ring.append b s.tb.time).nextSeq := by
      rw [State.writeRecord_ring]
      split <;> exact ⟨rfl, rfl⟩
    obtain ⟨records, nextSeq⟩ := ih (s.writeRecord b)
    obtain ⟨records', nextSeq'⟩ := marks bs s.tb.time (s.ring.append b s.tb.time) (s.writeRecord b).ring first.1 first.2
    rw [State.writeRecord_tb] at records nextSeq
    exact ⟨records.trans records', nextSeq.trans nextSeq'⟩

/-- Records count their outcomes one after another (R158). -/
theorem writeRecords_counts (bs : List RecordBody) (s : State) :
    (writeRecords bs s).counts = bs.foldl (fun c b => c.countOutcome b.outcome) s.counts := by
  induction bs generalizing s with
  | nil => rfl
  | cons b bs ih => exact (ih _).trans (by rw [State.writeRecord_counts]; rfl)

/-! ### Stage 2 of the control reset -/

/-- What the record of an entry dropped at a control reset carries (R130). -/
def dropRecord (s : State) (n : Chan) (e : Entry) : RecordBody :=
  e.record n .resetDropped (if e.state = .active then (s.chan n).seq.sent else 0)

/-- What dropping entries leaves as it is. -/
structure DropFrame (s t : State) : Prop where
  tb : t.tb = s.tb
  params : t.params = s.params
  zones : t.zones = s.zones
  channelMap : t.channelMap = s.channelMap
  framer : t.framer = s.framer
  dir : t.dir = s.dir
  pool : t.pool = s.pool
  lineRate : t.port.lineRate = s.port.lineRate
  pins : t.pins = s.pins
  pending : t.pending = s.pending

theorem DropFrame.trans {s t u : State} (h : DropFrame s t) (k : DropFrame t u) : DropFrame s u :=
  ⟨k.tb.trans h.tb, k.params.trans h.params, k.zones.trans h.zones, k.channelMap.trans h.channelMap,
    k.framer.trans h.framer, k.dir.trans h.dir, k.pool.trans h.pool, k.lineRate.trans h.lineRate, k.pins.trans h.pins,
    k.pending.trans h.pending⟩

theorem dropEntry_frame (n : Chan) (e : Entry) (s : State) : DropFrame s (dropEntry n e s) := by
  constructor <;> simp [dropEntry]

theorem dropEntries_frame (n : Chan) (es : List Entry) (s : State) :
    DropFrame s (es.foldl (fun s e => dropEntry n e s) s) := by
  induction es generalizing s with
  | nil => exact ⟨rfl, rfl, rfl, rfl, rfl, rfl, rfl, rfl, rfl, rfl⟩
  | cons e es ih => exact (dropEntry_frame n e s).trans (ih _)

theorem dropEntries_channels (n : Chan) (es : List Entry) (s : State) :
    (es.foldl (fun s e => dropEntry n e s) s).channels = s.channels := by
  induction es generalizing s with
  | nil => rfl
  | cons e es ih => exact (ih _).trans (by simp [dropEntry])

theorem dropEntries_records (n : Chan) (es : List Entry) (s : State) :
    let t := es.foldl (fun s e => dropEntry n e s) s
    let u := writeRecords (es.map (dropRecord s n)) s
    t.ring = u.ring ∧ t.counts = u.counts ∧ t.port = u.port := by
  induction es generalizing s with
  | nil => exact ⟨rfl, rfl, rfl⟩
  | cons e es ih =>
    have same : dropRecord (dropEntry n e s) n = dropRecord s n := by
      funext x
      simp [dropRecord, dropEntry]
    obtain ⟨ring, counts, port⟩ := ih (dropEntry n e s)
    obtain ⟨ring', counts', port'⟩ := writeRecords_congr (es.map (dropRecord s n)) (s := s.writeRecord (dropRecord s n e))
      (t := dropEntry n e s) (State.closeContext_tb ..) (State.closeContext_params ..) (State.closeContext_ring ..)
      (State.closeContext_counts ..) (State.closeContext_port ..)
    rw [same] at ring counts port
    exact ⟨ring.trans ring', counts.trans counts', port.trans port'⟩

theorem dropEntries_context (n : Chan) (es : List Entry) (s : State) (k : Stream) :
    (es.foldl (fun s e => dropEntry n e s) s).context k =
      if ∃ e ∈ es, e.state = .assembling ∧ e.source = k then none else s.context k := by
  induction es generalizing s with
  | nil => simp
  | cons e es ih =>
    rw [List.foldl_cons, ih, dropEntry, State.context_closeContext]
    by_cases h : e.state = .assembling ∧ e.source = k
    · simp [h.1, h.2]
    · have h' : ¬ (e.state = .assembling ∧ k = e.source) := fun ⟨a, b⟩ => h ⟨a, b.symm⟩
      simp [h, h']

theorem dropQueue_chan (n : Chan) (s : State) (m : Chan) :
    (dropQueue n s).chan m = if m = n then { s.chan n with queue := [] } else s.chan m := by
  have kept := State.chan_congr (dropEntries_channels n (s.chan n).queue s)
  simp [dropQueue, kept]

/-- The queues after some channels have dropped theirs. -/
theorem dropQueues_chan (ns : List Chan) (s : State) (m : Chan) :
    (forChans dropQueue ns s).chan m = if m ∈ ns then { s.chan m with queue := [] } else s.chan m := by
  induction ns generalizing s with
  | nil => rfl
  | cons n ns ih =>
    rw [forChans, List.foldl_cons, ← forChans, ih, dropQueue_chan]
    by_cases h : m = n <;> by_cases h' : m ∈ ns <;> simp [h, h']

theorem dropQueue_frame (n : Chan) (s : State) : DropFrame s (dropQueue n s) :=
  (dropEntries_frame n (s.chan n).queue s).trans ⟨rfl, rfl, rfl, rfl, rfl, rfl, rfl, rfl, rfl, rfl⟩

theorem dropQueues_frame (ns : List Chan) (s : State) : DropFrame s (forChans dropQueue ns s) :=
  forChans_induction dropQueue (DropFrame s) (fun n t h => h.trans (dropQueue_frame n t)) ns s
    ⟨rfl, rfl, rfl, rfl, rfl, rfl, rfl, rfl, rfl, rfl⟩

theorem dropQueues_context (ns : List Chan) (distinct : ns.Nodup) (s : State) (k : Stream) :
    (forChans dropQueue ns s).context k =
      if ∃ n ∈ ns, ∃ e ∈ (s.chan n).queue, e.state = .assembling ∧ e.source = k then none else s.context k := by
  induction ns generalizing s with
  | nil => simp [forChans]
  | cons n ns ih =>
    obtain ⟨new, distinct⟩ := List.nodup_cons.mp distinct
    have others : (∃ m ∈ ns, ∃ e ∈ ((dropQueue n s).chan m).queue, e.state = .assembling ∧ e.source = k) ↔
        ∃ m ∈ ns, ∃ e ∈ (s.chan m).queue, e.state = .assembling ∧ e.source = k := by
      refine exists_congr fun m => and_congr_right fun hm => ?_
      have : m ≠ n := fun e => new (e ▸ hm)
      simp [dropQueue_chan, this]
    have first : (dropQueue n s).context k =
        if ∃ e ∈ (s.chan n).queue, e.state = .assembling ∧ e.source = k then none else s.context k :=
      dropEntries_context n _ s k
    rw [forChans, List.foldl_cons, ← forChans, ih distinct, first]
    simp only [others, List.mem_cons, exists_eq_or_imp]
    by_cases here : ∃ e ∈ (s.chan n).queue, e.state = .assembling ∧ e.source = k
    · simp only [here, true_or, if_true, ite_self]
    · simp only [here, false_or, if_false]

/-- The records of the entries that a control reset drops, channel after channel. -/
def droppedRecords (ns : List Chan) (s : State) : List RecordBody :=
  ns.flatMap (fun n => (s.chan n).queue.map (dropRecord s n))

theorem dropQueues_records (ns : List Chan) (distinct : ns.Nodup) (s : State) :
    let t := forChans dropQueue ns s
    let u := writeRecords (droppedRecords ns s) s
    t.ring = u.ring ∧ t.counts = u.counts ∧ t.port = u.port := by
  induction ns generalizing s with
  | nil => exact ⟨rfl, rfl, rfl⟩
  | cons n ns ih =>
    obtain ⟨new, distinct⟩ := List.nodup_cons.mp distinct
    have others : droppedRecords ns (dropQueue n s) = droppedRecords ns s := by
      unfold droppedRecords
      refine List.flatMap_congr fun m hm => ?_
      have : m ≠ n := fun e => new (e ▸ hm)
      have same : dropRecord (dropQueue n s) m = dropRecord s m := by
        funext x
        simp [dropRecord, dropQueue_chan, this]
      rw [dropQueue_chan, if_neg this, same]
    obtain ⟨ring, counts, port⟩ := ih distinct (dropQueue n s)
    have frame := dropQueue_frame n s
    obtain ⟨ring', counts', port'⟩ := dropEntries_records n (s.chan n).queue s
    obtain ⟨ring'', counts'', port''⟩ := writeRecords_congr (droppedRecords ns s)
      (s := writeRecords ((s.chan n).queue.map (dropRecord s n)) s) (t := dropQueue n s)
      (frame.tb.trans (writeRecords_tb ..).symm) (frame.params.trans (writeRecords_params ..).symm) ring' counts' port'
    rw [others] at ring counts port
    have whole : writeRecords (droppedRecords (n :: ns) s) s =
        writeRecords (droppedRecords ns s) (writeRecords ((s.chan n).queue.map (dropRecord s n)) s) := writeRecords_append ..
    rw [whole]
    exact ⟨ring.trans ring'', counts.trans counts'', port.trans port''⟩

/-! ### The control reset -/

theorem controlReset_chan (s : State) (n : Chan) :
    (controlReset s).chan n = Channel.controlReset { s.chan n with queue := [] } := by
  have h : (controlReset s).chan n = ((forChans dropQueue allChans s).chan n).controlReset := by
    simp [controlReset, State.chan]
  rw [h, dropQueues_chan, if_pos (mem_allChans n)]

theorem controlReset_context (s : State) (k : Stream) : (controlReset s).context k =
    if ∃ n, ∃ e ∈ (s.chan n).queue, e.state = .assembling ∧ e.source = k then none else s.context k := by
  have last : (controlReset s).contexts = (forChans dropQueue allChans s).contexts := by simp [controlReset]
  rw [State.context_congr last, dropQueues_context allChans (by decide)]
  simp only [mem_allChans, true_and]

theorem controlReset_tb (s : State) : (controlReset s).tb = s.tb := by
  simp [controlReset, (dropQueues_frame allChans s).tb]
theorem controlReset_params (s : State) : (controlReset s).params = s.params := by
  simp [controlReset, (dropQueues_frame allChans s).params]
theorem controlReset_pending (s : State) : (controlReset s).pending = s.pending := by
  simp [controlReset, (dropQueues_frame allChans s).pending]
theorem controlReset_pool (s : State) : (controlReset s).pool = ⟨freeListReset, s.pool.cells⟩ := by
  simp [controlReset, (dropQueues_frame allChans s).pool]
theorem controlReset_ring (s : State) :
    (controlReset s).ring = { (writeRecords (droppedRecords allChans s) s).ring with mark := none } := by
  simp [controlReset, (dropQueues_records allChans (by decide) s).1]
theorem controlReset_counts (s : State) :
    (controlReset s).counts = (writeRecords (droppedRecords allChans s) s).counts := by
  simp [controlReset, (dropQueues_records allChans (by decide) s).2.1]

/-! ### Invariants -/

/-- The part of the state that the invariants of the batches speak of. -/
structure SameBatches (s t : State) : Prop where
  tb : t.tb = s.tb
  params : t.params = s.params
  channels : t.channels = s.channels
  contexts : t.contexts = s.contexts
  pool : t.pool = s.pool
  records : t.ring.records = s.ring.records
  nextSeq : t.ring.nextSeq = s.ring.nextSeq
  counts : t.counts = s.counts

/-- What the steps cannot break: it depends on nothing beside the batches, each kind of work keeps it, and so do the resets. -/
structure Invariant (P : State → Prop) : Prop where
  congr : ∀ s t, SameBatches s t → P s → P t
  work : ∀ s t, Work s t → P s → P t
  expire : ∀ s, s.tb.expires s.params = true → P s →
    P (forChans cutTimebase allChans (changeTimebase (s.tb.check s.params) s))
  fullReset : ∀ s, P s → P (resetBlocks s)
  controlReset : ∀ s, P s → P (controlReset s)

/-- What depends on no Timebase is kept by a holdover expiry, whose cuts are work. -/
theorem expire_of_work {P : State → Prop} (work : ∀ s t, Work s t → P s → P t)
    (timebase : ∀ s t, P s → P (changeTimebase t s)) (s : State) (hs : P s) :
    P (forChans cutTimebase allChans (changeTimebase (s.tb.check s.params) s)) :=
  (forChans_works cutTimebase_works allChans _).keeps work (timebase s _ hs)

theorem settle_sameBatches (s : State) : SameBatches s (settle s) := by constructor <;> simp

theorem Invariant.event {P : State → Prop} (h : Invariant P) {s t : State} (e : Event s t) (hs : P s) : P t := by
  have port : ∀ (s : State) (p : Port), P s → P (s.setPort p) := fun s p =>
    h.congr _ _ ⟨rfl, rfl, rfl, rfl, rfl, rfl, rfl, rfl⟩
  have settled : ∀ s, P s → P (settle s) := fun s => h.congr _ _ (settle_sameBatches s)
  cases e with
  | level work => exact work.keeps h.work hs
  | done work => exact settled _ (work.keeps h.work hs)
  | expire expires => exact settled _ (h.expire s expires hs)
  | reply f room work => exact port _ _ (work.keeps h.work hs)
  | sent f rest => exact settled _ (port _ _ hs)
  | assertReset => exact h.congr (resetBlocks s) _ ⟨rfl, rfl, rfl, rfl, rfl, rfl, rfl, rfl⟩ (h.fullReset s hs)
  | endReset straps => exact h.congr s _ ⟨rfl, rfl, rfl, rfl, rfl, rfl, rfl, rfl⟩ hs
  | fullReset straps p =>
    exact settled _ (h.congr (resetBlocks _) _ ⟨rfl, rfl, rfl, rfl, rfl, rfl, rfl, rfl⟩ (h.fullReset _ (port s p hs)))
  | controlReset p => exact settled _ (h.controlReset _ (port s p hs))

/-- A step is idle or an event of the command in front. -/
theorem step_event {s t : State} (h : step s = .next t) : ∃ rest, Event { s with pending := rest } t := by
  unfold step at h
  cases queue : s.pending with
  | nil => rw [queue] at h; cases h; exact ⟨_, .idle s⟩
  | cons c rest => rw [queue] at h; exact ⟨rest, exec_event h⟩

theorem Invariant.step {P : State → Prop} (h : Invariant P) {s t : State} (hs : P s) (run : step s = .next t) : P t := by
  obtain ⟨rest, e⟩ := step_event run
  exact h.event e (h.congr s _ ⟨rfl, rfl, rfl, rfl, rfl, rfl, rfl, rfl⟩ hs)

end Sys2Proof.Machine
end

section
/-! PROOFS. What each kind of work leaves in the channels, the pool and the other fields. -/

namespace Sys2Proof.Machine

/-! ### The channels -/

theorem retireActive_eq {n : Chan} {s : State} {h : Entry} {rest : List Entry} (queue : (s.chan n).queue = h :: rest)
    (o : LaunchOutcome) : retireActive n o s = retire n h o (s.chan n).seq.sent s := by
  simp [retireActive, queue]

/-- The head leaves its queue; nothing else of the channels changes. -/
theorem retireActive_chan (n : Chan) (o : LaunchOutcome) (s : State) (m : Chan) :
    (retireActive n o s).chan m = if m = n then { s.chan n with queue := (s.chan n).queue.tail } else s.chan m := by
  cases queue : (s.chan n).queue with
  | nil => by_cases h : m = n <;> simp [retireActive, queue, h]; simp [← queue]
  | cons e rest => simp [retireActive_eq queue, queue]

/-- The end of an active batch in the fields of the channels (R131, R140). -/
theorem endActive_chan (n : Chan) (o : LaunchOutcome) (s : State) (m : Chan) :
    (endActive n o s).chan m = if m = n then { s.chan n with
      queue := (s.chan n).queue.tail
      seq := { (s.chan n).seq with
        state := .idle, dry := false, sent := 0, muteAfter := false
        portMute := (s.chan n).seq.portMute || (s.chan n).seq.muteAfter } } else s.chan m := by
  rw [endActive, enterIdle_chan]
  by_cases h : m = n <;> simp [h, retireActive_chan]

theorem keyHead_chan {n : Chan} {s : State} {e : Entry} {rest : List Entry} (queue : (s.chan n).queue = e :: rest)
    (dry : Bool) (m : Chan) : (keyHead n dry s).chan m = if m = n then { s.chan n with
      queue := { e with state := .active } :: rest
      seq := { (s.chan n).seq with state := .keying, sent := 0, dry := dry } } else s.chan m := by
  simp [keyHead, queue]

/-- The settings replaced in a free channel, with its passage between DISABLED and IDLE (R36, R140). -/
theorem replaceSettings_chan {n : Chan} {s : State} (free : (s.chan n).busy = false) (c : Settings) :
    (∀ m, m ≠ n → (replaceSettings n c s).chan m = s.chan m) ∧ ∃ q,
      (replaceSettings n c s).chan n = ⟨c, [], q⟩ ∧ (s.chan n).queue = [] ∧ (s.chan n).seq.state.keyed = false ∧
      q.state = (if c.enabled then .idle else .disabled) ∧ q.lines = (s.chan n).seq.lines ∧
      (q.sent = (s.chan n).seq.sent ∨ q.sent = 0) ∧ (q.dry = (s.chan n).seq.dry ∨ q.dry = false) := by
  simp only [Channel.busy, Bool.or_eq_false_iff, Bool.not_eq_false', List.isEmpty_iff] at free
  obtain ⟨unkeyed, empty⟩ := free
  unfold replaceSettings
  dsimp only
  cases state : (s.chan n).seq.state with
  | keying | sending | tail | hold => simp [state, SeqState.keyed] at unkeyed
  | disabled | idle =>
    cases enabled : c.enabled <;> simp +contextual [state, empty, enterIdle_chan, SeqState.keyed]

theorem refclkTick_chan (s : State) (m : Chan) :
    (refclkTick s).chan m = { s.chan m with seq := tickStrobe (s.chan m).seq } := by
  simp [refclkTick, State.chan]

@[simp] theorem changeTimebase_chan (t : Timebase) (s : State) (m : Chan) : (changeTimebase t s).chan m = s.chan m := by
  simp [changeTimebase]

/-- An edge marks entries, and changes nothing else of the channels (R4, log 29). -/
theorem ppsEdge_chan (s : State) : ∃ f : Entry → Entry, (∀ e, f e = e ∨ f e = { e with passed := true }) ∧
    ∀ m, (ppsEdge s).chan m = { s.chan m with queue := (s.chan m).queue.map f } := by
  unfold ppsEdge
  dsimp only
  split
  · refine ⟨Entry.markPassed (changeTimebase (s.tb.edge s.params s.allIdle) s).tb.time, fun e => ?_, fun m => ?_⟩
    · unfold Entry.markPassed
      split
      · exact .inr rfl
      · exact .inl rfl
    · rw [← changeTimebase_chan (s.tb.edge s.params s.allIdle) s m]
      simp [markPassed, State.chan]
  · exact ⟨id, fun _ => .inl rfl, fun m => by simp⟩

theorem insertBatch_chan (src : Stream) (h : Header) (n : Chan) (x : Instants) (s : State) (m : Chan) :
    (insertBatch src h n x s).chan m = if m = n then { s.chan n with
      queue := insertEntry (newEntry src h x (s.pool.free.take (blocksFor h.n.toNat))) (s.chan n).queue } else s.chan m := by
  have h1 : ∀ (c : Counts) (u : State), ({ u with counts := c } : State).chan m = u.chan m := fun _ _ => rfl
  have h2 : ∀ (p : Pool) (u : State) (k : Chan), ({ u with pool := p } : State).chan k = u.chan k := fun _ _ _ => rfl
  simp only [insertBatch, h1, State.chan_setContext, State.chan_setQueue, h2]

/-- The entry as a segment's writing leaves it (R97). -/
def segmentWritten (c : Context) (e : Entry) : Entry :=
  { e with
    received := c.received + segmentCount e.n c.expected c.next
    state := if c.next + 1 = c.expected then .ready else e.state }

theorem writeSegment_chan (k : Stream) (c : Context) (e : Entry) (bytes : List Byte) (s : State) (m : Chan) :
    (writeSegment k c e bytes s).chan m = if m = c.chan then { s.chan c.chan with
      queue := (s.chan c.chan).queue.map (fun x => if x = e then segmentWritten c e else x) } else s.chan m := by
  have h : ∀ (p : Pool) (u : State) (k : Chan), ({ u with pool := p } : State).chan k = u.chan k := fun _ _ _ => rfl
  simp only [writeSegment, State.chan_setContext, State.chan_setQueue, h, segmentWritten, decide_eq_true_eq]

/-! ### Fields that most work leaves -/

@[simp] theorem enterIdle_tb (n : Chan) (s : State) : (enterIdle n s).tb = s.tb := by simp [enterIdle_eq]
@[simp] theorem enterIdle_params (n : Chan) (s : State) : (enterIdle n s).params = s.params := by simp [enterIdle_eq]
@[simp] theorem enterIdle_pool (n : Chan) (s : State) : (enterIdle n s).pool = s.pool := by simp [enterIdle_eq]
@[simp] theorem enterIdle_ring (n : Chan) (s : State) : (enterIdle n s).ring = s.ring := by simp [enterIdle_eq]
@[simp] theorem enterIdle_counts (n : Chan) (s : State) : (enterIdle n s).counts = s.counts := by simp [enterIdle_eq]
@[simp] theorem enterIdle_out (n : Chan) (s : State) : (enterIdle n s).port.out = s.port.out := by simp [enterIdle_eq]
@[simp] theorem enterIdle_pending (n : Chan) (s : State) : (enterIdle n s).pending = s.pending := by simp [enterIdle_eq]

/-- The end of the head's batch, where there is one, is a removal. -/
theorem retireActive_induction {P : State → Prop} {n : Chan} {o : LaunchOutcome} {s : State} (stay : P s)
    (gone : ∀ h ∈ (s.chan n).queue.head?, P (retire n h o (s.chan n).seq.sent s)) : P (retireActive n o s) := by
  unfold retireActive
  split
  · next h rest queue => exact gone h (by simp [queue])
  · exact stay

@[simp] theorem retireActive_tb (n : Chan) (o : LaunchOutcome) (s : State) : (retireActive n o s).tb = s.tb :=
  retireActive_induction (P := fun t => t.tb = s.tb) rfl fun _ _ => by simp
@[simp] theorem retireActive_params (n : Chan) (o : LaunchOutcome) (s : State) : (retireActive n o s).params = s.params :=
  retireActive_induction (P := fun t => t.params = s.params) rfl fun _ _ => by simp
@[simp] theorem retireActive_out (n : Chan) (o : LaunchOutcome) (s : State) :
    (retireActive n o s).port.out = s.port.out :=
  retireActive_induction (P := fun t => t.port.out = s.port.out) rfl fun _ _ => by simp
@[simp] theorem retireActive_pending (n : Chan) (o : LaunchOutcome) (s : State) :
    (retireActive n o s).pending = s.pending :=
  retireActive_induction (P := fun t => t.pending = s.pending) rfl fun _ _ => by simp

/-- Keying a head is an update of its channel, or nothing. -/
theorem keyHead_cases (n : Chan) (dry : Bool) (s : State) : keyHead n dry s = s ∨ ∃ c, keyHead n dry s = s.setChan n c := by
  unfold keyHead
  split
  · exact .inr ⟨_, rfl⟩
  · exact .inl rfl

@[simp] theorem keyHead_tb (n : Chan) (dry : Bool) (s : State) : (keyHead n dry s).tb = s.tb := by
  obtain h | ⟨c, h⟩ := keyHead_cases n dry s <;> simp [h]
@[simp] theorem keyHead_params (n : Chan) (dry : Bool) (s : State) : (keyHead n dry s).params = s.params := by
  obtain h | ⟨c, h⟩ := keyHead_cases n dry s <;> simp [h]
@[simp] theorem keyHead_contexts (n : Chan) (dry : Bool) (s : State) : (keyHead n dry s).contexts = s.contexts := by
  obtain h | ⟨c, h⟩ := keyHead_cases n dry s <;> simp [h]
@[simp] theorem keyHead_pool (n : Chan) (dry : Bool) (s : State) : (keyHead n dry s).pool = s.pool := by
  obtain h | ⟨c, h⟩ := keyHead_cases n dry s <;> simp [h]
@[simp] theorem keyHead_ring (n : Chan) (dry : Bool) (s : State) : (keyHead n dry s).ring = s.ring := by
  obtain h | ⟨c, h⟩ := keyHead_cases n dry s <;> simp [h]
@[simp] theorem keyHead_counts (n : Chan) (dry : Bool) (s : State) : (keyHead n dry s).counts = s.counts := by
  obtain h | ⟨c, h⟩ := keyHead_cases n dry s <;> simp [h]
@[simp] theorem keyHead_out (n : Chan) (dry : Bool) (s : State) : (keyHead n dry s).port.out = s.port.out := by
  obtain h | ⟨c, h⟩ := keyHead_cases n dry s <;> simp [h]
@[simp] theorem keyHead_pending (n : Chan) (dry : Bool) (s : State) : (keyHead n dry s).pending = s.pending := by
  obtain h | ⟨c, h⟩ := keyHead_cases n dry s <;> simp [h]

/-- New settings touch the channel alone, and the CHANNEL notice. -/
theorem replaceSettings_cases (n : Chan) (c : Settings) (s : State) :
    ∃ d b, replaceSettings n c s = (s.setChan n d).pendIf b .channel := by
  unfold replaceSettings
  dsimp only
  split
  · exact ⟨_, _, by rw [enterIdle_eq, State.setSeq, State.setChan_setChan]⟩
  · exact ⟨_, false, by rw [State.setSeq, State.setChan_setChan]; rfl⟩
  · exact ⟨_, false, rfl⟩

/-- What an edge leaves beside the Timebase, the notices and the marks. -/
theorem ppsEdge_keeps (s : State) : (ppsEdge s).params = s.params ∧ (ppsEdge s).contexts = s.contexts ∧
    (ppsEdge s).pool = s.pool ∧ (ppsEdge s).ring = s.ring ∧ (ppsEdge s).counts = s.counts ∧
    (ppsEdge s).port.out = s.port.out ∧ (ppsEdge s).pending = s.pending ∧
    (ppsEdge s).tb = s.tb.edge s.params s.allIdle := by
  unfold ppsEdge
  dsimp only
  split <;> simp [markPassed, changeTimebase]

/-! ### The output queue and the commands that wait -/

/-- No work touches the waiting frames or the commands that wait; a reply is put there only when its event's work is done. -/
theorem Work.frame {s t : State} (w : Work s t) : t.port.out = s.port.out ∧ t.pending = s.pending := by
  cases w with
  | aside h => exact ⟨h.out, h.pending⟩
  | record b => simp
  | tick | flags | tail | hold | forget | present => exact ⟨rfl, rfl⟩
  | edge => obtain ⟨-, -, -, -, -, out, pending, -⟩ := ppsEdge_keeps s; exact ⟨out, pending⟩
  | check => simp [changeTimebase]
  | settings n c =>
    obtain ⟨d, b, h⟩ := replaceSettings_cases n c s
    simp [h]
  | key | finish | takeUp | discardHeld | remove | endBatch => simp [endActive]
  | insert | write => exact ⟨rfl, rfl⟩

theorem Works.frame {s t : State} (w : Works s t) : t.port.out = s.port.out ∧ t.pending = s.pending := by
  induction w with
  | refl => exact ⟨rfl, rfl⟩
  | tail _ last ih => exact ⟨last.frame.1.trans ih.1, last.frame.2.trans ih.2⟩

end Sys2Proof.Machine
end

section
/-! PROOFS. What the work of an event can do to a queue, and the invariants that follow from it: the ring's numbers (R154), and
the queues' bound and disjoint intervals (R111). -/

namespace Sys2Proof.Machine

/-! ### The place of a new entry -/

/-- An entry stays ahead of a new one while it is ACTIVE or not later (R111, R113, log 21). -/
def staysAhead (e y : Entry) : Bool := decide (y.state = .active) || !decide (e.t.diff y.t < 0)

/-- A new entry stands behind those that stay ahead of it (R111). -/
theorem insertEntry_eq (e : Entry) (queue : List Entry) :
    insertEntry e queue = queue.takeWhile (staysAhead e) ++ e :: queue.dropWhile (staysAhead e) := by
  induction queue with
  | nil => rfl
  | cons y rest ih =>
    have h : (y.state ≠ .active ∧ e.t.before y.t = true) ↔ staysAhead e y = false := by
      simp [staysAhead, before_iff]
    by_cases ahead : staysAhead e y = true
    · rw [insertEntry, if_neg (by rw [h]; simp [ahead]), ih]
      simp [ahead]
    · rw [insertEntry, if_pos (by rw [h]; simpa using ahead)]
      simp [ahead]

theorem insertEntry_perm (e : Entry) (queue : List Entry) : (insertEntry e queue).Perm (e :: queue) := by
  rw [insertEntry_eq]
  exact List.perm_middle.trans (by rw [List.takeWhile_append_dropWhile])

theorem mem_insertEntry {e y : Entry} {queue : List Entry} : y ∈ insertEntry e queue ↔ y = e ∨ y ∈ queue := by
  rw [(insertEntry_perm e queue).mem_iff, List.mem_cons]

theorem length_insertEntry (e : Entry) (queue : List Entry) : (insertEntry e queue).length = queue.length + 1 :=
  (insertEntry_perm e queue).length_eq

/-! ### What work can do to a queue -/

/-- An entry apart from its progress: what stays of it from its commit to its removal. -/
def Entry.batch (e : Entry) : Entry := { e with state := .ready, received := 0, passed := false }

/-- A new entry as admission leaves it (R116, R119, R121, R123, R125). -/
structure NewEntry (s : State) (m : Chan) (e : Entry) : Prop where
  fresh : s.tagHeld e.tag = false
  sized : e.chain.length = blocksFor e.n
  room : (s.chan m).queue.length + 1 ≤ 16
  disjoint : ∀ x ∈ (s.chan m).queue, intersects e.tk e.tend x.tk x.tend = false

theorem headerInRange_n {h : Header} (inRange : headerInRange h = true) : 1 ≤ h.n.toNat ∧ h.n.toNat ≤ 8192 := by
  simp only [headerInRange, Bool.and_eq_true, decide_eq_true_eq] at inRange
  obtain ⟨⟨⟨⟨⟨-, low⟩, high⟩, -⟩, -⟩, -⟩ := inRange
  exact ⟨low, high⟩

/-- A piece of work takes batches out of a queue and changes the progress of others, or it places one new entry. -/
theorem Work.queues {s t : State} (w : Work s t) :
    (∀ m, ((t.chan m).queue.map Entry.batch).Sublist ((s.chan m).queue.map Entry.batch)) ∨
    ∃ n e, (∀ m, m ≠ n → (t.chan m).queue = (s.chan m).queue) ∧ (t.chan n).queue = insertEntry e (s.chan n).queue ∧
      NewEntry s n e := by
  have same (m : Chan) (h : (t.chan m).queue = (s.chan m).queue) :
      ((t.chan m).queue.map Entry.batch).Sublist ((s.chan m).queue.map Entry.batch) := by rw [h]
  have shorter (m : Chan) (h : (t.chan m).queue.Sublist (s.chan m).queue) :
      ((t.chan m).queue.map Entry.batch).Sublist ((s.chan m).queue.map Entry.batch) := h.map _
  cases w with
  | aside h => exact .inl fun m => same m (by rw [State.chan_congr h.channels])
  | record b => exact .inl fun m => same m (by simp)
  | tick => exact .inl fun m => same m (by rw [refclkTick_chan])
  | edge =>
    obtain ⟨f, marks, queue⟩ := ppsEdge_chan s
    have : Entry.batch ∘ f = Entry.batch := by
      funext e
      obtain h | h := marks e <;> simp [h, Entry.batch]
    refine .inl fun m => ?_
    rw [queue, List.map_map, this]
  | check => exact .inl fun m => same m (by simp)
  | flags n q | tail n | hold n | present n =>
    refine .inl fun m => same m ?_
    by_cases h : m = n <;> simp [presentSymbol, h]
  | settings n c free =>
    obtain ⟨others, q, here, empty, -⟩ := replaceSettings_chan free c
    refine .inl fun m => same m ?_
    by_cases h : m = n
    · rw [h, here, empty]
    · rw [others m h]
  | key n e rest idle queue =>
    refine .inl fun m => ?_
    rw [keyHead_chan queue]
    split
    · next h => rw [h, queue]; simp [Entry.batch]
    · exact .refl _
  | finish n o =>
    refine .inl fun m => shorter m ?_
    rw [endActive_chan]
    split
    · next h => rw [h]; exact List.tail_sublist _
    · exact .refl _
  | takeUp n h e rest held queue =>
    have queue' : ((retireActive n (s.chan n).seq.launchOutcome s).chan n).queue = e :: rest := by
      simp [retireActive_chan, queue]
    refine .inl fun m => ?_
    rw [keyHead_chan queue']
    split
    · next h => rw [h, queue]; simp [Entry.batch]
    · next h => rw [retireActive_chan, if_neg h]
  | discardHeld n h e rest o held queue =>
    refine .inl fun m => shorter m ?_
    rw [enterIdle_chan]
    by_cases h : m = n
    · simp [h, retireActive_chan, queue]
    · simp [h, retireActive_chan]
  | remove n e o =>
    refine .inl fun m => shorter m ?_
    rw [retire_chan]
    split
    · next h => rw [h]; exact List.erase_sublist
    · exact .refl _
  | insert src h n x unopened fresh enabled inRange blocks room disjoint =>
    refine .inr ⟨n, newEntry src h x (s.pool.free.take (blocksFor h.n.toNat)),
      fun m hm => by rw [insertBatch_chan, if_neg hm], by rw [insertBatch_chan, if_pos rfl], fresh, ?_, room, disjoint⟩
    simp [newEntry, blocks]
  | write k c e bytes =>
    refine .inl fun m => ?_
    rw [writeSegment_chan]
    split
    · next h =>
      have : Entry.batch ∘ (fun x => if x = e then segmentWritten c e else x) = Entry.batch := by
        funext x
        by_cases hx : x = e <;> simp [hx, Entry.batch, segmentWritten]
      rw [h, List.map_map, this]
    · exact .refl _
  | endBatch k c e o =>
    refine .inl fun m => shorter m ?_
    rw [State.chan_setContext, retire_chan]
    split
    · next h => rw [h]; exact List.erase_sublist
    · exact .refl _
  | forget => exact .inl fun m => same m (by simp)

theorem Work.queue {s t : State} (w : Work s t) (m : Chan) :
    ((t.chan m).queue.map Entry.batch).Sublist ((s.chan m).queue.map Entry.batch) ∨
    ∃ e, (t.chan m).queue = insertEntry e (s.chan m).queue ∧ NewEntry s m e := by
  obtain h | ⟨n, e, others, here, new⟩ := w.queues
  · exact .inl (h m)
  · by_cases hm : m = n
    · subst hm
      exact .inr ⟨e, here, new⟩
    · exact .inl (by rw [others m hm])

/-! ### What is said of a queue's batches -/

/-- A property of each queue, kept when batches leave or make progress and when a new entry is placed, is an invariant. -/
theorem invariant_of_queue {P : State → Prop} {Q : List Entry → Prop} (each : ∀ s, P s ↔ ∀ n : Chan, Q (s.chan n).queue)
    (empty : Q []) (sublist : ∀ q r, (r.map Entry.batch).Sublist (q.map Entry.batch) → Q q → Q r)
    (place : ∀ s m e, NewEntry s m e → Q (s.chan m).queue → Q (insertEntry e (s.chan m).queue)) : Invariant P := by
  have work : ∀ s t, Work s t → P s → P t := fun s t w hs => by
    rw [each] at hs ⊢
    intro n
    obtain h | ⟨e, queue, new⟩ := w.queue n
    · exact sublist _ _ h (hs n)
    · rw [queue]
      exact place s n e new (hs n)
  have congr : ∀ s t : State, (∀ n, (t.chan n).queue = (s.chan n).queue) → P s → P t := fun s t h hs => by
    rw [each] at hs ⊢
    exact fun n => h n ▸ hs n
  refine ⟨fun s t h => congr s t fun n => by rw [State.chan_congr h.channels], work,
    fun s _ => expire_of_work work (fun s t => congr _ _ fun n => by simp) s, fun s _ => ?_, fun s _ => ?_⟩
  · rw [each]
    intro n
    simpa [resetBlocks, State.chan, Channel.resetValue] using empty
  · rw [each]
    intro n
    rw [controlReset_chan]
    exact empty

theorem intersects_comm (a b c d : SiteTime) : intersects a b c d = intersects c d a b := Bool.and_comm ..

/-- The airtime intervals of a queue's entries are pairwise disjoint (R111). -/
def DisjointQueue (queue : List Entry) : Prop :=
  queue.Pairwise (fun a b => intersects a.tk a.tend b.tk b.tend = false)

theorem disjointQueue_batch (queue : List Entry) : DisjointQueue (queue.map Entry.batch) ↔ DisjointQueue queue :=
  List.pairwise_map

theorem disjointQueue_insert {e : Entry} {queue : List Entry}
    (new : ∀ x ∈ queue, intersects e.tk e.tend x.tk x.tend = false) (h : DisjointQueue queue) :
    DisjointQueue (insertEntry e queue) :=
  (insertEntry_perm e queue).symm.pairwise (List.pairwise_cons.mpr ⟨new, h⟩)
    fun {a b} hab => by rw [intersects_comm]; exact hab

theorem queuesBounded_invariant : Invariant QueuesBounded :=
  invariant_of_queue (Q := fun q => q.length ≤ 16) (fun _ => Iff.rfl) (Nat.zero_le _)
    (fun q r sub bound => by simpa using sub.length_le.trans (by simpa using bound))
    (fun s m e new _ => by rw [length_insertEntry]; exact new.room)

theorem intervalsDisjoint_invariant : Invariant IntervalsDisjoint :=
  invariant_of_queue (Q := DisjointQueue) (fun _ => Iff.rfl) List.Pairwise.nil
    (fun q r sub h => (disjointQueue_batch r).mp (((disjointQueue_batch q).mpr h).sublist sub))
    (fun _ _ _ new => disjointQueue_insert new.disjoint)

/-- Settles O55: batches leave a queue or make progress in it, which keeps both properties, and admission places an entry only
where there is room and where its interval meets no other. -/
theorem queuesStayDisjoint : Obligations.QueuesStayDisjoint := fun _ _ run =>
  ⟨fun h => queuesBounded_invariant.step h run, fun h => intervalsDisjoint_invariant.step h run⟩

theorem chainsSized_invariant : Invariant ChainsSized :=
  invariant_of_queue (Q := fun q => ∀ e ∈ q, e.chain.length = (e.n + 255) / 256) (fun _ => Iff.rfl) (by simp)
    (fun q r sub sized e he => by
      obtain ⟨e', he', same⟩ := List.mem_map.mp (sub.subset (List.mem_map_of_mem he))
      have chain : e'.chain = e.chain := congrArg (fun x => x.chain) same
      have n : e'.n = e.n := congrArg (fun x => x.n) same
      rw [← chain, ← n]
      exact sized e' he')
    (fun s m e new sized y hy => by
      obtain rfl | hy := mem_insertEntry.mp hy
      · exact new.sized
      · exact sized y hy)

/-! ### The Record Ring -/

/-- At most 64 records, numbered up to the next number less one (R154). -/
def Numbered (r : Ring) : Prop := r.records.length ≤ 64 ∧ r.records.map (fun r => r.seqNo) = seqNumbers r.nextSeq r.records.length

theorem numbered_congr {r r' : Ring} (records : r'.records = r.records) (nextSeq : r'.nextSeq = r.nextSeq)
    (h : Numbered r) : Numbered r' := by
  unfold Numbered at *
  rw [records, nextSeq]
  exact h

/-- One number more at the end of the run. -/
theorem seqNumbers_succ (next : BitVec 16) (k : Nat) : seqNumbers next k ++ [next] = seqNumbers (next + 1) (k + 1) := by
  have shift : ∀ i, i < k + 1 → next + 1 - BitVec.ofNat 16 (k + 1 - i) = next - BitVec.ofNat 16 (k - i) := fun i hi => by
    have : k + 1 - i = (k - i) + 1 := by omega
    rw [this, BitVec.ofNat_add]
    exact add_sub_add_right_eq_sub ..
  unfold seqNumbers
  rw [List.map_congr_left (l := List.range (k + 1)) fun i hi => shift i (List.mem_range.mp hi), List.range_succ]
  simp

/-- The run without its first number. -/
theorem seqNumbers_tail (next : BitVec 16) (k : Nat) : (seqNumbers next (k + 1)).tail = seqNumbers next k := by
  unfold seqNumbers
  rw [List.range_succ_eq_map, List.map_cons, List.tail_cons, List.map_map]
  exact List.map_congr_left fun i _ => by simp

theorem Ring.append_records (r : Ring) (b : RecordBody) (x : SiteTime) : (r.append b x).records =
    (if r.records.length < 64 then r.records else r.records.tail) ++ [⟨r.nextSeq, b, x⟩] := by
  simp only [Ring.append, Config.ringCapacity, List.drop_one]

/-- A record more, and the oldest of 64 lost, leaves the numbers consecutive (R154). -/
theorem numbered_append {r : Ring} (b : RecordBody) (x : SiteTime) (h : Numbered r) : Numbered (r.append b x) := by
  obtain ⟨bound, numbers⟩ := h
  unfold Numbered
  rw [Ring.append_records]
  by_cases room : r.records.length < 64
  · rw [if_pos room]
    refine ⟨by simpa using room, ?_⟩
    rw [List.map_append, numbers, List.length_append]
    exact seqNumbers_succ ..
  · rw [if_neg room]
    have length : r.records.length = 63 + 1 := by omega
    refine ⟨by simp [length], ?_⟩
    rw [List.map_append, List.map_tail, numbers, length, seqNumbers_tail, List.length_append, List.length_tail,
      length]
    exact seqNumbers_succ ..

theorem numbered_writeRecord {s : State} (b : RecordBody) (h : Numbered s.ring) : Numbered (s.writeRecord b).ring := by
  rw [State.writeRecord_ring]
  split
  · exact numbered_congr rfl rfl (numbered_append b s.tb.time h)
  · exact numbered_append b s.tb.time h

theorem numbered_retire {n : Chan} {e : Entry} {o : LaunchOutcome} {k : Nat} {s : State} (h : Numbered s.ring) :
    Numbered (retire n e o k s).ring := by
  rw [retire_ring]
  exact numbered_writeRecord _ h

theorem numbered_retireActive {n : Chan} {o : LaunchOutcome} {s : State} (h : Numbered s.ring) :
    Numbered (retireActive n o s).ring :=
  retireActive_induction (P := fun t => Numbered t.ring) h fun _ _ => numbered_retire h

theorem Work.numbered {s t : State} (w : Work s t) (h : Numbered s.ring) : Numbered t.ring := by
  cases w with
  | aside same => rw [same.ring]; exact h
  | record b => exact numbered_writeRecord b h
  | tick | flags | tail | hold | present | insert | write | forget => exact h
  | edge => obtain ⟨-, -, -, ring, -⟩ := ppsEdge_keeps s; rw [ring]; exact h
  | check => simpa [changeTimebase] using h
  | settings n c =>
    obtain ⟨d, b, eq⟩ := replaceSettings_cases n c s
    simpa [eq] using h
  | key => simpa using h
  | finish n o => simpa [endActive] using numbered_retireActive h
  | takeUp => simpa using numbered_retireActive h
  | discardHeld => simpa using numbered_retire (numbered_retireActive h)
  | remove | endBatch => exact numbered_retire h

theorem numbered_writeRecords (bs : List RecordBody) {s : State} (h : Numbered s.ring) :
    Numbered (writeRecords bs s).ring := by
  induction bs generalizing s with
  | nil => exact h
  | cons b bs ih => exact ih (numbered_writeRecord b h)

theorem ringNumbered_invariant : Invariant RingNumbered where
  congr _ _ h := numbered_congr h.records h.nextSeq
  work _ _ w := w.numbered
  expire := fun s _ => expire_of_work (fun _ _ w => w.numbered)
    (fun s t h => numbered_congr (r := s.ring) (by simp [changeTimebase]) (by simp [changeTimebase]) h) s
  fullReset _ _ := ⟨Nat.zero_le _, rfl⟩
  controlReset s h := by
    have := numbered_congr (r' := (controlReset s).ring) (by simp [controlReset_ring]) (by simp [controlReset_ring])
      (numbered_writeRecords (droppedRecords allChans s) h)
    exact this

/-- Settles O54: every record is appended with the next number, and only the oldest of 64 is lost. -/
theorem ringStaysNumbered : Obligations.RingStaysNumbered := fun _ _ h run => ringNumbered_invariant.step h run

end Sys2Proof.Machine
end

section
/-! PROOFS. The Symbol Pool stays balanced (R104): each kind of work moves blocks between the free list and the chains. -/

namespace Sys2Proof.Machine

/-- The blocks of a queue's chains, in queue order. -/
def queueBlocks (queue : List Entry) : List Nat := queue.flatMap (fun e => e.chain)

theorem freeListReset_eq : freeListReset = List.range 384 := by simp only [freeListReset, Config.poolBlocks]

/-- The blocks of all chains are those of the four queues. -/
theorem chainBlocks_eq (s : State) : s.chainBlocks = queueBlocks (s.chan 0).queue ++ (queueBlocks (s.chan 1).queue ++
    (queueBlocks (s.chan 2).queue ++ queueBlocks (s.chan 3).queue)) := by
  simp [State.chainBlocks, allChans, queueBlocks]

/-- Where one queue's blocks and the free list are rearranged together, so are all blocks. -/
theorem blocks_perm_of_queue {s t : State} (n : Chan) (others : ∀ m, m ≠ n → (t.chan m).queue = (s.chan m).queue)
    (here : (t.pool.free ++ queueBlocks (t.chan n).queue).Perm (s.pool.free ++ queueBlocks (s.chan n).queue)) :
    (t.pool.free ++ t.chainBlocks).Perm (s.pool.free ++ s.chainBlocks) := by
  rw [List.perm_iff_count] at here ⊢
  intro b
  have count := here b
  simp only [chainBlocks_eq, List.count_append] at count ⊢
  match n with
  | 0 => simp only [others 1 (by decide), others 2 (by decide), others 3 (by decide)]; omega
  | 1 => simp only [others 0 (by decide), others 2 (by decide), others 3 (by decide)]; omega
  | 2 => simp only [others 0 (by decide), others 1 (by decide), others 3 (by decide)]; omega
  | 3 => simp only [others 0 (by decide), others 1 (by decide), others 2 (by decide)]; omega

/-- The same where the queues' blocks and the free list are as before. -/
theorem blocks_eq_of_queues {s t : State} (free : t.pool.free = s.pool.free)
    (queues : ∀ m, queueBlocks (t.chan m).queue = queueBlocks (s.chan m).queue) :
    t.pool.free ++ t.chainBlocks = s.pool.free ++ s.chainBlocks := by
  simp only [chainBlocks_eq, free, queues]

/-- A queue's blocks without those of an entry, and these. -/
theorem queueBlocks_erase {e : Entry} {queue : List Entry} (queued : e ∈ queue) :
    (e.chain ++ queueBlocks (queue.erase e)).Perm (queueBlocks queue) :=
  ((List.perm_cons_erase queued).flatMap_right (fun e : Entry => e.chain)).symm

theorem retire_blocks {n : Chan} {e : Entry} {s : State} (queued : e ∈ (s.chan n).queue) (o : LaunchOutcome) (k : Nat) :
    ((retire n e o k s).pool.free ++ (retire n e o k s).chainBlocks).Perm (s.pool.free ++ s.chainBlocks) := by
  refine blocks_perm_of_queue n (fun m h => by simp [h]) ?_
  simpa using (queueBlocks_erase queued).append_left s.pool.free

theorem retireActive_blocks (n : Chan) (o : LaunchOutcome) (s : State) :
    ((retireActive n o s).pool.free ++ (retireActive n o s).chainBlocks).Perm (s.pool.free ++ s.chainBlocks) :=
  retireActive_induction (P := fun t => (t.pool.free ++ t.chainBlocks).Perm (s.pool.free ++ s.chainBlocks)) (.refl _)
    fun _ h => retire_blocks (List.mem_of_mem_head? h) o _

theorem enterIdle_blocks (n : Chan) (s : State) :
    (enterIdle n s).pool.free ++ (enterIdle n s).chainBlocks = s.pool.free ++ s.chainBlocks := by
  refine blocks_eq_of_queues (by simp) fun m => ?_
  by_cases h : m = n <;> simp [enterIdle_chan, h]

theorem keyHead_blocks (n : Chan) (dry : Bool) (s : State) :
    (keyHead n dry s).pool.free ++ (keyHead n dry s).chainBlocks = s.pool.free ++ s.chainBlocks := by
  refine blocks_eq_of_queues (by simp) fun m => ?_
  cases queue : (s.chan n).queue with
  | nil => simp [keyHead, queue]
  | cons e rest =>
    by_cases h : m = n
    · simp [keyHead_chan queue, h, queue, queueBlocks]
    · simp [keyHead_chan queue, h]

/-- No work loses or makes a block. -/
theorem Work.blocks {s t : State} (w : Work s t) : (t.pool.free ++ t.chainBlocks).Perm (s.pool.free ++ s.chainBlocks) := by
  have same (free : t.pool.free = s.pool.free) (queues : ∀ m, queueBlocks (t.chan m).queue = queueBlocks (s.chan m).queue) :
      (t.pool.free ++ t.chainBlocks).Perm (s.pool.free ++ s.chainBlocks) := .of_eq (blocks_eq_of_queues free queues)
  cases w with
  | aside h => exact same (by rw [h.pool]) fun m => by rw [State.chan_congr h.channels]
  | record b => exact same (by simp) fun m => by simp
  | tick => exact same rfl fun m => by rw [refclkTick_chan]
  | edge =>
    obtain ⟨f, marks, queue⟩ := ppsEdge_chan s
    obtain ⟨-, -, pool, -⟩ := ppsEdge_keeps s
    have chain : ∀ e, (f e).chain = e.chain := fun e => by obtain h | h := marks e <;> simp [h]
    exact same (by rw [pool]) fun m => by simp [queue, queueBlocks, List.flatMap_map, chain]
  | check => exact same (by simp [changeTimebase]) fun m => by simp
  | flags n | tail n | hold n | present n =>
    exact same rfl fun m => by by_cases h : m = n <;> simp [presentSymbol, h]
  | settings n c free =>
    obtain ⟨others, q, here, empty, -⟩ := replaceSettings_chan free c
    obtain ⟨d, b, eq⟩ := replaceSettings_cases n c s
    refine same (by simp [eq]) fun m => ?_
    by_cases h : m = n
    · rw [h, here, empty]
    · rw [others m h]
  | key n => exact .of_eq (keyHead_blocks ..)
  | finish n o => exact (List.Perm.of_eq (enterIdle_blocks ..)).trans (retireActive_blocks ..)
  | takeUp n => exact (List.Perm.of_eq (keyHead_blocks ..)).trans (retireActive_blocks ..)
  | discardHeld n h e rest o held queue =>
    refine (List.Perm.of_eq (enterIdle_blocks ..)).trans ((retire_blocks ?_ o 0).trans (retireActive_blocks ..))
    simp [retireActive_chan, queue]
  | remove n e o queued => exact retire_blocks queued o 0
  | insert src h n x =>
    refine blocks_perm_of_queue n (fun m hm => by rw [insertBatch_chan, if_neg hm]) ?_
    have free : (insertBatch src h n x s).pool.free = s.pool.free.drop (blocksFor h.n.toNat) := rfl
    have queue := ((insertEntry_perm (newEntry src h x (s.pool.free.take (blocksFor h.n.toNat)))
      (s.chan n).queue).flatMap_right (fun e => e.chain)).append_left (s.pool.free.drop (blocksFor h.n.toNat))
    rw [insertBatch_chan, if_pos rfl, free]
    refine queue.trans ?_
    rw [List.flatMap_cons, ← List.append_assoc]
    exact List.Perm.append_right _ (List.perm_append_comm.trans (.of_eq (List.take_append_drop ..)))
  | write k c e bytes =>
    refine same rfl fun m => ?_
    rw [writeSegment_chan]
    split
    · next h =>
      have chain : ∀ x, (if x = e then segmentWritten c e else x).chain = x.chain := fun x => by
        by_cases hx : x = e <;> simp [hx, segmentWritten]
      simp [h, queueBlocks, List.flatMap_map, chain]
    · rfl
  | endBatch k c e o opened entry =>
    have : e ∈ (s.chan c.chan).queue := List.mem_of_find?_eq_some entry
    exact retire_blocks this o 0
  | forget => exact same rfl fun m => rfl

theorem poolBalanced_invariant : Invariant PoolBalanced where
  congr s t h balanced := by
    have : t.pool.free ++ t.chainBlocks = s.pool.free ++ s.chainBlocks :=
      blocks_eq_of_queues (by rw [h.pool]) fun m => by rw [State.chan_congr h.channels]
    rw [PoolBalanced, this]
    exact balanced
  work _ _ w balanced := w.blocks.trans balanced
  expire s _ := expire_of_work (fun _ _ w balanced => w.blocks.trans balanced) (fun s t balanced => by
    have : (changeTimebase t s).pool.free ++ (changeTimebase t s).chainBlocks = s.pool.free ++ s.chainBlocks :=
      blocks_eq_of_queues (by simp [changeTimebase]) fun m => by simp
    rw [this]
    exact balanced) s
  fullReset s _ := by
    have queue : ∀ n, ((resetBlocks s).chan n).queue = [] := fun n => by
      simp [resetBlocks, State.chan, Channel.resetValue]
    have pool : (resetBlocks s).pool.free = freeListReset := by simp only [resetBlocks]
    unfold PoolBalanced
    rw [chainBlocks_eq, queue, queue, queue, queue, pool, freeListReset_eq]
    simp only [queueBlocks, List.flatMap_nil, List.append_nil]
    exact .refl _
  controlReset s _ := by
    have queue : ∀ n, ((controlReset s).chan n).queue = [] := fun n => by rw [controlReset_chan]; rfl
    unfold PoolBalanced
    rw [chainBlocks_eq, queue, queue, queue, queue, controlReset_pool, freeListReset_eq]
    simp only [queueBlocks, List.flatMap_nil, List.append_nil]
    exact .refl _

/-- Settles O53: blocks only move between the free list and the chains, and a chain is as long as its batch needs when it is
taken and stays with its entry. -/
theorem poolStaysBalanced : Obligations.PoolStaysBalanced :=
  ⟨fun _ _ h run => poolBalanced_invariant.step h run, fun _ _ h run => chainsSized_invariant.step h run⟩

end Sys2Proof.Machine
end

section
/-! PROOFS. The Timebase stays in its ranges, and a channel is keyed only while launching is allowed (chapter 1, R19, R133). -/

namespace Sys2Proof.Machine

/-! ### The moves of site time -/

/-- A move of site time changes the time, the next check, the pending time set and time valid, and no more (R2, R18). -/
theorem move_keeps (t : Timebase) (e : Int) (m : Move) :
    t.move e m = { t with
      time := (t.move e m).time, nextCheck := (t.move e m).nextCheck, pendingSet := (t.move e m).pendingSet
      valid := (t.move e m).valid } := by
  unfold Timebase.move
  split <;> rfl

/-- A move by no more than a second leaves the offset in its range. -/
theorem move_offset {t : Timebase} {m : Move} (e : Int) (range : t.time.offset < 10000000)
    (small : ∀ c, m = .adjust c → -10000000 ≤ c ∧ c ≤ 10000000) : (t.move e m).time.offset < 10000000 := by
  unfold Timebase.move
  split
  · simp only [SiteTime.stepAt]
    split <;> simp
  · simp
  · obtain ⟨low, high⟩ := small _ rfl
    exact normalise_offset _ _ (by omega) (by omega)
  · obtain ⟨low, high⟩ := small _ rfl
    exact normalise_offset _ _ (by dsimp only; omega) (by dsimp only; omega)

/-- A move leaves time valid where it was (R18). -/
theorem move_valid {t : Timebase} (e : Int) (m : Move) (h : t.valid = true) : (t.move e m).valid = true := by
  unfold Timebase.move
  split <;> simp [h]

theorem edgeError_range {offset : Nat} (range : offset < 10000000) :
    -5000000 ≤ edgeError offset ∧ edgeError offset ≤ 4999999 := by
  unfold edgeError
  split <;> omega

theorem clampSlew_range {slew : Nat} (c : Int) (bound : slew ≤ 16) : -16 ≤ clampSlew c slew ∧ clampSlew c slew ≤ 16 := by
  unfold clampSlew
  split
  · omega
  · split <;> omega

/-! ### The Timebase's counts -/

/-- The ranges of the Timebase's counts, and what step-pending goes with (chapter 1's table). -/
structure Timebase.Sound (t : Timebase) : Prop where
  good : t.good ≤ 4
  goodBefore : t.state = .acquire ∨ t.state = .holdover → t.good < 4
  outlier : t.outlier ≤ 3
  outlierLocked : t.state = .locked → t.outlier < 3
  agree : t.agree ≤ 4
  agreed : t.stepPending = true ↔ t.agree = 4
  stepHoldover : t.stepPending = true → t.state = .holdover
  elapsed : t.elapsed ≤ 3601
  elapsedHoldover : t.state = .holdover → t.elapsed ≤ 3600
  errorLow : -5000000 ≤ t.lastError
  errorHigh : t.lastError ≤ 4999999

theorem timebaseSound_iff (s : State) : TimebaseSound s ↔ s.tb.Sound :=
  ⟨fun ⟨a, b, c, d, e, f, g, h, i, j, k⟩ => ⟨a, b, c, d, e, f, g, h, i, j, k⟩,
    fun ⟨a, b, c, d, e, f, g, h, i, j, k⟩ => ⟨a, b, c, d, e, f, g, h, i, j, k⟩⟩

/-- Outside HOLDOVER no step is pending (R14). -/
theorem Timebase.Sound.unpending {t : Timebase} (sound : t.Sound) (h : t.state ≠ .holdover) :
    t.stepPending = false ∧ t.agree < 4 := by
  have pending : t.stepPending = false := Bool.eq_false_iff.mpr fun set => h (sound.stepHoldover set)
  have agree := sound.agree
  have : t.agree ≠ 4 := fun four => Bool.noConfusion (pending.symm.trans (sound.agreed.mpr four))
  exact ⟨pending, by omega⟩

/-- An edge leaves the counts in their ranges, state by state (R7 to R14). -/
theorem edge_sound {t : Timebase} (p : Params) (idle : Bool) (range : t.time.offset < 10000000) (sound : t.Sound) :
    (t.edge p idle).Sound := by
  obtain ⟨low, high⟩ := edgeError_range range
  unfold Timebase.edge
  dsimp only
  generalize edgeError t.time.offset = e at low high
  clear range
  cases state : t.state with
  | free =>
    obtain ⟨pending, four⟩ := sound.unpending (by rw [state]; nofun)
    obtain ⟨good, -, outlier, -, agree, -, -, elapsed, -, -, -⟩ := sound
    dsimp only
    rw [move_keeps]
    constructor <;> simp [pending] <;> omega
  | acquire =>
    obtain ⟨pending, four⟩ := sound.unpending (by rw [state]; nofun)
    obtain ⟨good, goodBefore, outlier, -, agree, -, -, elapsed, -, -, -⟩ := sound
    have few := goodBefore (.inl state)
    dsimp only
    unfold Timebase.edgeAcquire Timebase.goodEdge
    rw [move_keeps t e (.adjust (-e)), move_keeps t e .step]
    dsimp only
    split_ifs <;> constructor <;> simp [pending, state] <;> omega
  | locked =>
    obtain ⟨pending, four⟩ := sound.unpending (by rw [state]; nofun)
    obtain ⟨good, -, outlier, outlierLocked, agree, -, -, elapsed, -, -, -⟩ := sound
    have few := outlierLocked state
    dsimp only
    unfold Timebase.edgeLocked Timebase.enterHoldover
    rw [move_keeps t e (.adjust (clampSlew (-e) p.slew)), move_keeps t e (.adjust 0)]
    dsimp only
    split_ifs <;> constructor <;> simp [pending, state] <;> omega
  | holdover =>
    obtain ⟨good, goodBefore, outlier, -, agree, agreed, -, elapsed, elapsedHoldover, -, -⟩ := sound
    have few := goodBefore (.inr state)
    have short := elapsedHoldover state
    dsimp only
    unfold Timebase.edgeHoldover Timebase.goodEdge
    rw [move_keeps t e (.adjust (clampSlew (-e) p.slew)), move_keeps t e (.adjust 0), move_keeps t e .step]
    dsimp only
    by_cases pending : t.stepPending = true
    · have four := agreed.mp pending
      rw [if_pos pending]
      split_ifs <;> constructor <;> simp [state, pending] <;> omega
    · have fewer : t.agree < 4 := by have := mt agreed.mpr pending; omega
      rw [if_neg pending]
      split_ifs <;> constructor <;> simp [state] <;> omega

/-- The mid-second check leaves the counts in their ranges, state by state (R7, R9, R11, R15). -/
theorem check_sound {t : Timebase} {p : Params} (holdover : p.holdover ≤ 3600) (sound : t.Sound) : (t.check p).Sound := by
  obtain ⟨good, goodBefore, outlier, outlierLocked, agree, agreed, stepHoldover, elapsed, elapsedHoldover, low, high⟩ := sound
  have expires : t.expires p = true ↔ t.state = .holdover ∧ p.holdover < t.elapsed + 1 := by simp [Timebase.expires]
  unfold Timebase.check
  dsimp only
  cases state : t.state with
  | free =>
    constructor <;> simp_all
  | acquire | locked =>
    dsimp only [Timebase.enterFree, Timebase.enterHoldover]
    split_ifs <;> constructor <;> simp_all
  | holdover =>
    dsimp only [Timebase.enterFree, Timebase.enterHoldover]
    split_ifs <;> constructor <;> simp_all <;> omega

/-! ### Site time, the parameters and the Timebase -/

/-- Site time after an edge or a check stays in its range. -/
theorem edge_offset {t : Timebase} {p : Params} (idle : Bool) (slew : p.slew ≤ 16) (range : t.time.offset < 10000000) :
    (t.edge p idle).time.offset < 10000000 := by
  obtain ⟨low, high⟩ := edgeError_range range
  obtain ⟨slewLow, slewHigh⟩ := clampSlew_range (-edgeError t.time.offset) slew
  have step := move_offset (m := .step) (edgeError t.time.offset) range (by simp)
  have stay := move_offset (m := .adjust 0) (edgeError t.time.offset) range (by simp)
  have whole := move_offset (m := .adjust (-edgeError t.time.offset)) (edgeError t.time.offset) range
    (by rintro c ⟨rfl⟩; omega)
  have clamped := move_offset (m := .adjust (clampSlew (-edgeError t.time.offset) p.slew)) (edgeError t.time.offset) range
    (by rintro c ⟨rfl⟩; omega)
  unfold Timebase.edge
  cases state : t.state with
  | free => exact step
  | acquire =>
    dsimp only [Timebase.edgeAcquire, Timebase.goodEdge]
    split_ifs <;> assumption
  | locked =>
    dsimp only [Timebase.edgeLocked, Timebase.enterHoldover]
    split_ifs <;> assumption
  | holdover =>
    dsimp only [Timebase.edgeHoldover, Timebase.goodEdge]
    split_ifs <;> assumption

theorem check_time (t : Timebase) (p : Params) : (t.check p).time = t.time := by
  unfold Timebase.check Timebase.enterFree Timebase.enterHoldover
  cases state : t.state with
  | free => rfl
  | acquire | locked | holdover => dsimp only; split <;> rfl

/-- Site time, the parameters and the Timebase's counts are in their ranges. -/
def ClockSound (s : State) : Prop := TimeInRange s ∧ ParamsInRange s ∧ s.tb.Sound

theorem clockSound_congr {s t : State} (tb : t.tb = s.tb) (params : t.params = s.params) (h : ClockSound s) :
    ClockSound t := by
  unfold ClockSound TimeInRange ParamsInRange at *
  rw [tb, params]
  exact h

theorem tick_offset {x : SiteTime} (range : x.offset < 10000000) : x.tick.offset < 10000000 := by
  unfold SiteTime.tick
  split
  · simp only; omega
  · simp

theorem clockSound_check {s : State} (h : ClockSound s) : ClockSound (changeTimebase (s.tb.check s.params) s) := by
  obtain ⟨time, params, sound⟩ := h
  obtain ⟨-, -, -, -, -, -, holdover, -⟩ := id params
  refine ⟨?_, by simpa [changeTimebase, ParamsInRange] using params, by simpa [changeTimebase] using check_sound holdover sound⟩
  simpa [changeTimebase, TimeInRange, check_time] using time

/-- The cuts of a channel leave the Timebase and the parameters as they are. -/
theorem cutTimebase_clock (n : Chan) (s : State) :
    (cutTimebase n s).tb = s.tb ∧ (cutTimebase n s).params = s.params := by
  unfold cutTimebase cut endActive restLines
  split <;> simp

theorem clockSound_invariant : Invariant ClockSound where
  congr _ _ h := clockSound_congr h.tb h.params
  work s t w h := by
    cases w with
    | aside same =>
      obtain ⟨time, params, sound⟩ := h
      obtain ⟨a, b, c, d, e, f, g, i, j, k, l⟩ := sound
      have tb := same.tb
      exact ⟨by unfold TimeInRange; rw [tb]; exact time, same.params params, by rw [tb]; exact ⟨a, b, c, d, e, f, g, i, j, k, l⟩⟩
    | record | flags | tail | hold | present | forget | key | finish | takeUp | discardHeld | remove | endBatch | insert
    | write =>
      exact clockSound_congr (by simp [presentSymbol, endActive, insertBatch, writeSegment])
        (by simp [presentSymbol, endActive, insertBatch, writeSegment]) h
    | settings n c =>
      obtain ⟨d, b, eq⟩ := replaceSettings_cases n c s
      exact clockSound_congr (by simp [eq]) (by simp [eq]) h
    | tick =>
      obtain ⟨time, params, a, b, c, d, e, f, g, i, j, k, l⟩ := h
      exact ⟨tick_offset time, params, ⟨a, b, c, d, e, f, g, i, j, k, l⟩⟩
    | edge =>
      obtain ⟨time, params, sound⟩ := h
      obtain ⟨params', -, -, -, -, -, -, tb⟩ := ppsEdge_keeps s
      obtain ⟨-, -, -, -, slew, -⟩ := id params
      refine ⟨by unfold TimeInRange; rw [tb]; exact edge_offset _ slew time, by unfold ParamsInRange; rw [params']; exact params, ?_⟩
      rw [tb]
      exact edge_sound _ _ time sound
    | check => exact clockSound_check h
  expire s _ h := forChans_induction cutTimebase ClockSound
    (fun n t ht => clockSound_congr (cutTimebase_clock n t).1 (cutTimebase_clock n t).2 ht) allChans _ (clockSound_check h)
  fullReset s _ := clockSound_congr (s := State.reset) (by simp [resetBlocks]) (by simp [resetBlocks])
    ⟨by decide, by decide, (timebaseSound_iff _).mp (by decide)⟩
  controlReset s h := clockSound_congr (controlReset_tb s) (controlReset_params s) h

/-- Settles O60: the edge and the check keep the counts by state, a correction moves site time by less than a second, and SET
PARAMETERS replaces the record only by one in its ranges. -/
theorem timebaseStaysSound : Obligations.TimebaseStaysSound := fun _ t time params sound run => by
  obtain ⟨time', params', sound'⟩ := clockSound_invariant.step ⟨time, params, (timebaseSound_iff _).mp sound⟩ run
  exact ⟨time', params', (timebaseSound_iff t).mpr sound'⟩

/-! ### Launching allowed -/

theorem launchAllowed_iff (t : Timebase) :
    t.launchAllowed = true ↔ (t.state = .locked ∨ t.state = .holdover) ∧ t.valid = true := by
  simp [Timebase.launchAllowed]

/-- An edge forbids launching only by its step to ACQUIRE, which waits for every channel to be IDLE (R14). -/
theorem edge_launchAllowed {t : Timebase} {p : Params} {idle : Bool} (h : t.launchAllowed = true) (keyed : idle = false) :
    (t.edge p idle).launchAllowed = true := by
  rw [launchAllowed_iff] at h ⊢
  obtain ⟨running, valid⟩ := h
  unfold Timebase.edge
  cases state : t.state with
  | free | acquire => simp [state] at running
  | locked =>
    dsimp only [Timebase.edgeLocked, Timebase.enterHoldover]
    rw [move_keeps t _ (.adjust (clampSlew _ p.slew)), move_keeps t _ (.adjust 0)]
    dsimp only
    split_ifs <;> simp [move_valid, valid, state]
  | holdover =>
    dsimp only [Timebase.edgeHoldover, Timebase.goodEdge]
    rw [move_keeps t _ (.adjust (clampSlew _ p.slew)), move_keeps t _ (.adjust 0)]
    dsimp only
    split_ifs <;> simp_all [move_valid]

/-- A check forbids launching only at a holdover expiry (R11, R15). -/
theorem check_launchAllowed {t : Timebase} {p : Params} (h : t.launchAllowed = true) (runs : t.expires p = false) :
    (t.check p).launchAllowed = true := by
  rw [launchAllowed_iff] at h ⊢
  obtain ⟨running, valid⟩ := h
  unfold Timebase.check
  cases state : t.state with
  | free | acquire => simp [state] at running
  | locked =>
    dsimp only [Timebase.enterHoldover]
    split_ifs <;> simp [valid]
  | holdover => simp [runs, valid]

/-- An entry against which nothing stands finds launching allowed (R133). -/
theorem judgeEntry_none {n : Chan} {e : Entry} {s : State} (h : judgeEntry n e s = none) :
    e.state = .ready ∧ s.tb.launchAllowed = true := by
  unfold judgeEntry at h
  split_ifs at h with a b c d
  simp only [not_or, Bool.not_eq_false] at d
  exact ⟨by simpa using a, d.1⟩

/-- Where no channel becomes keyed and launching stays allowed, keyed channels stay allowed. -/
theorem keyedOnlyAllowed_of {s t : State} (allowed : s.tb.launchAllowed = true → t.tb.launchAllowed = true)
    (keyed : ∀ n, (t.chan n).seq.state.keyed = true → (s.chan n).seq.state.keyed = true ∨ t.tb.launchAllowed = true)
    (h : KeyedOnlyAllowed s) : KeyedOnlyAllowed t := fun n k =>
  (keyed n k).elim (fun before => allowed (h n before)) id

theorem awaitsSymbol_keyed {c : Channel} (h : c.awaitsSymbol = true) : c.seq.state.keyed = true := by
  unfold Channel.awaitsSymbol at h
  split at h
  · next state _ => rw [state]; rfl
  · next state _ => rw [state]; rfl
  · cases h

theorem awaitsTail_state {c : Channel} (h : c.awaitsTail = true) : c.seq.state = .sending := by
  unfold Channel.awaitsTail at h
  split at h
  · next state _ => exact state
  · cases h

theorem Work.keyedOnlyAllowed {s t : State} (w : Work s t) (h : KeyedOnlyAllowed s) : KeyedOnlyAllowed t := by
  have same (tb : t.tb = s.tb) (keyed : ∀ n, (t.chan n).seq.state.keyed = true → (s.chan n).seq.state.keyed = true) :
      KeyedOnlyAllowed t :=
    keyedOnlyAllowed_of (by rw [tb]; exact id) (fun n k => .inl (keyed n k)) h
  cases w with
  | aside a =>
    have tb := a.tb
    exact keyedOnlyAllowed_of (by rw [tb]; exact id) (fun n k => .inl (by rwa [State.chan_congr a.channels] at k)) h
  | record b => exact same (by simp) fun n k => by simpa using k
  | tick => exact keyedOnlyAllowed_of (s := s) (fun allowed => allowed) (fun n k => .inl (by rwa [refclkTick_chan] at k)) h
  | edge =>
    obtain ⟨f, -, queue⟩ := ppsEdge_chan s
    obtain ⟨-, -, -, -, -, -, -, tb⟩ := ppsEdge_keeps s
    intro n k
    rw [queue] at k
    have keyed : s.allIdle = false := by
      rw [Bool.eq_false_iff]
      intro idle
      obtain st | st := (allIdle_iff s).mp idle n <;> simp [st, SeqState.keyed] at k
    rw [tb]
    exact edge_launchAllowed (h n k) keyed
  | check runs =>
    intro n k
    rw [changeTimebase_chan] at k
    have tb : (changeTimebase (s.tb.check s.params) s).tb = s.tb.check s.params := by simp [changeTimebase]
    rw [tb]
    exact check_launchAllowed (h n k) runs
  | flags n q state =>
    refine same rfl fun m k => ?_
    by_cases hm : m = n
    · subst hm; simpa [state] using k
    · simpa [hm] using k
  | tail n awaits =>
    refine same rfl fun m k => ?_
    by_cases hm : m = n
    · subst hm; rw [awaitsTail_state awaits]; rfl
    · simpa [hm] using k
  | hold n inTail =>
    refine same rfl fun m k => ?_
    by_cases hm : m = n
    · subst hm; rw [inTail]; rfl
    · simpa [hm] using k
  | present n awaits =>
    refine same rfl fun m k => ?_
    by_cases hm : m = n
    · subst hm; exact awaitsSymbol_keyed awaits
    · simpa [presentSymbol, hm] using k
  | settings n c free =>
    obtain ⟨others, q, here, -, -, state, -⟩ := replaceSettings_chan free c
    obtain ⟨d, b, eq⟩ := replaceSettings_cases n c s
    refine same (by simp [eq]) fun m k => ?_
    by_cases hm : m = n
    · rw [hm, here] at k
      dsimp only at k
      rw [state] at k
      split at k <;> cases k
    · rwa [others m hm] at k
  | key n e rest idle queue judged =>
    exact keyedOnlyAllowed_of (by simp) (fun m _ => .inr (by simpa using (judgeEntry_none judged).2)) h
  | takeUp n a e rest held queue judged =>
    exact keyedOnlyAllowed_of (s := s) (by simp) (fun m _ => .inr (by simpa using (judgeEntry_none judged).2)) h
  | finish n o =>
    refine same (by simp [endActive]) fun m k => ?_
    rw [endActive_chan] at k
    split at k
    · cases k
    · exact k
  | discardHeld n h e rest o =>
    refine same (by simp) fun m k => ?_
    rw [enterIdle_chan] at k
    split at k
    · cases k
    · next hm => simpa [retireActive_chan, hm] using k
  | remove n e o =>
    refine same (by simp) fun m k => ?_
    rw [retire_chan] at k
    split at k
    · next hm => rw [hm]; exact k
    · exact k
  | insert src h n x =>
    refine same rfl fun m k => ?_
    rw [insertBatch_chan] at k
    split at k
    · next hm => rw [hm]; exact k
    · exact k
  | write j c e bytes =>
    refine same rfl fun m k => ?_
    rw [writeSegment_chan] at k
    split at k
    · next hm => rw [hm]; exact k
    · exact k
  | endBatch j c e o =>
    refine same (by simp) fun m k => ?_
    rw [State.chan_setContext, retire_chan] at k
    split at k
    · next hm => rw [hm]; exact k
    · exact k
  | forget => exact same rfl fun m k => k

/-- After the cuts of some channels none of them is keyed (R15). -/
theorem cutTimebase_chan (n : Chan) (s : State) (m : Chan) :
    ((cutTimebase n s).chan m).seq.state.keyed = true → m ≠ n ∧ (s.chan m).seq.state.keyed = true := by
  intro k
  unfold cutTimebase at k
  split at k
  · rw [cut, endActive_chan] at k
    split at k
    · cases k
    · next hm => exact ⟨hm, by simpa [restLines, hm] using k⟩
  · next unkeyed => exact ⟨fun e => unkeyed (e ▸ k), k⟩

theorem cutAll_unkeyed (s : State) (n : Chan) : ((forChans cutTimebase allChans s).chan n).seq.state.keyed = false := by
  have cut : ∀ (ns : List Chan) (s : State), ((forChans cutTimebase ns s).chan n).seq.state.keyed = true → n ∉ ns := by
    intro ns
    induction ns with
    | nil => simp
    | cons m ns ih =>
      intro s k
      have later : ((forChans cutTimebase ns (cutTimebase m s)).chan n).seq.state.keyed = true := k
      have first : ∀ (ns : List Chan) (u : State), ((forChans cutTimebase ns u).chan n).seq.state.keyed = true →
          (u.chan n).seq.state.keyed = true := by
        intro ns
        induction ns with
        | nil => exact fun _ k => k
        | cons j ns ih => exact fun u k => (cutTimebase_chan j u n (ih _ k)).2
      exact List.not_mem_cons_of_ne_of_not_mem (cutTimebase_chan m s n (first ns _ later)).1 (ih _ later)
  exact Bool.eq_false_iff.mpr fun k => cut allChans s k (mem_allChans n)

theorem keyedOnlyAllowed_invariant : Invariant KeyedOnlyAllowed where
  congr s t h := keyedOnlyAllowed_of (by rw [h.tb]; exact id) fun n k => .inl (by rwa [State.chan_congr h.channels] at k)
  work _ _ w := w.keyedOnlyAllowed
  expire s _ _ := fun n k => by rw [cutAll_unkeyed] at k; cases k
  fullReset s _ := fun n k => by
    have : ((resetBlocks s).chan n).seq.state = .disabled := by
      simp [resetBlocks, State.chan, Channel.resetValue, Sequencer.resetValue]
    rw [this] at k
    cases k
  controlReset s _ := fun n k => by
    rw [controlReset_chan] at k
    dsimp only [Channel.controlReset] at k
    split at k <;> cases k

/-- Settles O58: keying is judged while launching is allowed, and what forbids launching waits for idle channels or cuts the
keyed ones. -/
theorem keyedOnlyWhileAllowed : Obligations.KeyedOnlyWhileAllowed := fun _ _ h run => keyedOnlyAllowed_invariant.step h run

end Sys2Proof.Machine
end

section
/-! PROOFS. The output queue, the notices, the counts and the symbol positions stay sound. -/

namespace Sys2Proof.Machine

/-! ### The counts (R158) -/

theorem countsBounded_countOutcome {s t : State} (o : LaunchOutcome) (h : t.counts = s.counts.countOutcome o)
    (bounded : CountsBounded s) : CountsBounded t := by
  obtain ⟨admitted, outcomes, rest⟩ := bounded
  unfold CountsBounded
  rw [h]
  refine ⟨admitted, fun i => ?_, rest⟩
  by_cases hi : o.code = i
  · subst hi
    simpa [Counts.countOutcome] using countInc_le (outcomes o.code)
  · simpa [Counts.countOutcome, Vector.getElem_set, Fin.val_inj, hi] using outcomes i

theorem countsBounded_congr {s t : State} (h : t.counts = s.counts) (bounded : CountsBounded s) : CountsBounded t := by
  unfold CountsBounded
  rwa [h]

theorem retireActive_countsBounded (n : Chan) (o : LaunchOutcome) {s : State} (bounded : CountsBounded s) :
    CountsBounded (retireActive n o s) :=
  retireActive_induction bounded fun _ _ => countsBounded_countOutcome o (retire_counts ..) bounded

/-- Each piece of work counts by counts that stop at 65,535. -/
theorem Work.countsBounded {s t : State} (w : Work s t) (bounded : CountsBounded s) : CountsBounded t := by
  cases w with
  | aside h => exact h.counts bounded
  | record b => exact countsBounded_countOutcome b.outcome (State.writeRecord_counts ..) bounded
  | tick | flags | tail | hold | forget | present | write => exact countsBounded_congr (s := s) rfl bounded
  | edge => obtain ⟨-, -, -, -, counts, -⟩ := ppsEdge_keeps s; exact countsBounded_congr counts bounded
  | check => exact countsBounded_congr (s := s) (by simp [changeTimebase]) bounded
  | settings n c =>
    obtain ⟨d, b, h⟩ := replaceSettings_cases n c s
    exact countsBounded_congr (s := s) (by simp [h]) bounded
  | key => exact countsBounded_congr (s := s) (by simp) bounded
  | finish n o => exact countsBounded_congr (enterIdle_counts ..) (retireActive_countsBounded n o bounded)
  | takeUp n => exact countsBounded_congr (keyHead_counts ..) (retireActive_countsBounded n _ bounded)
  | discardHeld n h e rest o =>
    exact countsBounded_congr (enterIdle_counts ..)
      (countsBounded_countOutcome o (retire_counts ..) (retireActive_countsBounded n _ bounded))
  | remove n e o | endBatch k c e o => exact countsBounded_countOutcome o (by simp) bounded
  | insert =>
    obtain ⟨admitted, rest⟩ := bounded
    exact ⟨countInc_le admitted, rest⟩

theorem countsBounded_invariant : Invariant CountsBounded where
  congr _ _ same := countsBounded_congr same.counts
  work _ _ w := w.countsBounded
  expire s _ := expire_of_work (fun _ _ w => w.countsBounded)
    (fun s _ => countsBounded_congr (s := s) (by simp [changeTimebase])) s
  fullReset s _ := by
    have counts : (resetBlocks s).counts = .resetValue := by simp only [resetBlocks, State.reset]
    unfold CountsBounded
    rw [counts]
    decide
  controlReset s bounded := by
    have records : ∀ (bs : List RecordBody) (s : State), CountsBounded s → CountsBounded (writeRecords bs s) := by
      intro bs
      induction bs with
      | nil => exact fun _ bounded => bounded
      | cons b bs ih => exact fun s bounded => ih _ (Work.countsBounded (.record b) bounded)
    exact countsBounded_congr (controlReset_counts s) (records _ s bounded)

/-! ### The symbol positions -/

@[simp] theorem retireActive_cells (n : Chan) (o : LaunchOutcome) (s : State) :
    (retireActive n o s).pool.cells = s.pool.cells :=
  retireActive_induction (P := fun t => t.pool.cells = s.pool.cells) rfl fun _ _ => by simp

theorem poolCanonical_congr {s t : State} (h : t.pool.cells = s.pool.cells) (canonical : PoolCanonical s) :
    PoolCanonical t := by
  unfold PoolCanonical Pool.wf
  rwa [h]

/-- No work but a segment's writing touches the symbols. -/
theorem Work.poolCanonical {s t : State} (w : Work s t) (canonical : PoolCanonical s) : PoolCanonical t := by
  have same (h : t.pool.cells = s.pool.cells) : PoolCanonical t := poolCanonical_congr h canonical
  cases w with
  | aside h => exact same (by rw [h.pool])
  | record b => exact same (by simp)
  | tick | flags | tail | hold | forget | present | insert => exact same rfl
  | edge => obtain ⟨-, -, pool, -⟩ := ppsEdge_keeps s; exact same (by rw [pool])
  | check => exact same (by simp [changeTimebase])
  | settings n c =>
    obtain ⟨d, b, h⟩ := replaceSettings_cases n c s
    exact same (by simp [h])
  | key | finish | takeUp | discardHeld | remove | endBatch => exact same (by simp [endActive])
  | write => exact cellsWfFrom_cellsWriteAll _ _ _ canonical

theorem poolCanonical_invariant : Invariant PoolCanonical where
  congr _ _ same := poolCanonical_congr (by rw [same.pool])
  work _ _ w := w.poolCanonical
  expire s _ := expire_of_work (fun _ _ w => w.poolCanonical)
    (fun s _ => poolCanonical_congr (s := s) (by simp [changeTimebase])) s
  fullReset s := poolCanonical_congr (s := s) (by simp only [resetBlocks])
  controlReset s := poolCanonical_congr (s := s) (by rw [controlReset_pool])

/-! ### The output queue and the notices -/

theorem settle_out_length (s : State) (bounded : s.port.out.length ≤ 4) : (settle s).port.out.length ≤ 4 := by
  obtain h | ⟨k, empty, -, -, h⟩ := settle_cases s
  · rwa [h]
  · simp [h, sendNotice, empty]

/-- An event whose end is reached leaves no notice beside an empty output queue (R174). -/
theorem settle_noticesSent (s : State) : NoticesSent (settle s) := by
  intro out reset
  by_cases waiting : s.port.out = []
  · rw [settle_resetPending] at reset
    cases first : s.port.notices.first? with
    | none =>
      have empty := NoticeSet.first?_eq_none.mp first
      rw [settle_of_noNotice empty, empty]
    | some k =>
      rw [settle_of_first waiting reset first] at out
      simp [sendNotice] at out
  · rw [settle_of_out waiting] at out
    exact absurd out waiting

/-- A frame joins the waiting ones only where fewer than four wait (R165, R174). -/
theorem Event.outputBounded {s t : State} (e : Event s t) (bounded : OutputBounded s) : OutputBounded t := by
  cases e with
  | level work port => rwa [OutputBounded, port]
  | done work => exact settle_out_length _ (by rwa [work.frame.1])
  | expire h =>
    refine settle_out_length _ ?_
    rw [(forChans_works cutTimebase_works allChans _).frame.1]
    simpa [changeTimebase] using bounded
  | reply f room work => simpa [State.enqueue, work.frame.1] using room
  | sent f rest out => exact settle_out_length _ (by simp [OutputBounded, out] at bounded; simpa using by omega)
  | assertReset => simp [OutputBounded, Machine.assertReset, resetBlocks, Port.resetValue]
  | endReset => exact bounded
  | fullReset straps p =>
    exact settle_out_length _ (by simp [requestedFullReset, Machine.endReset, resetBlocks, Port.resetValue])
  | controlReset p => exact settle_out_length _ (by simp [Machine.controlReset, Port.resetValue])

theorem Event.noticesSent {s t : State} (e : Event s t) (sent : NoticesSent s) : NoticesSent t := by
  cases e with
  | level work port => rwa [NoticesSent, port]
  | done | expire | sent | fullReset | controlReset => exact settle_noticesSent _
  | reply f => exact fun out => absurd out (by simp [State.enqueue])
  | assertReset => exact fun _ _ => by simp [Machine.assertReset, resetBlocks, Port.resetValue]
  | endReset => exact sent

/-- Settles O59: a reply finds room, every other event ends with its notice sent, and each kind of work keeps the counts in
their range and the symbol positions in their form. -/
theorem portCountsAndCellsStaySound : Obligations.PortCountsAndCellsStaySound := by
  refine ⟨fun s t run => ?_, fun _ _ run =>
    ⟨fun h => countsBounded_invariant.step h run, fun h => poolCanonical_invariant.step h run⟩⟩
  obtain ⟨rest, e⟩ := step_event run
  exact ⟨e.outputBounded, e.noticesSent⟩

end Sys2Proof.Machine
end

section
/-! PROOFS. The sequencers and their queues stay in step (R35, R131, R132). -/

namespace Sys2Proof.Machine

/-! ### Resting and keyed channels -/

/-- What `ChannelSound` says of a channel whose state is not keyed. -/
structure RestingSound (c : Channel) : Prop where
  enabled : c.seq.state = .disabled ↔ c.settings.enabled = false
  empty : c.seq.state = .disabled → c.queue = []
  waits : ∀ e ∈ c.queue, e.state ≠ .active
  sized : ∀ e ∈ c.queue, 1 ≤ e.n ∧ e.n ≤ 8192
  sent : c.seq.sent = 0
  dry : c.seq.dry = false
  lines : c.seq.lines = 0

/-- What `ChannelSound` says of a channel with the active batch `a`, with `rest` behind it. -/
structure KeyedSound (c : Channel) (a : Entry) (rest : List Entry) : Prop where
  queue : c.queue = a :: rest
  active : a.state = .active
  waits : ∀ e ∈ rest, e.state ≠ .active
  sized : ∀ e ∈ a :: rest, 1 ≤ e.n ∧ e.n ≤ 8192
  enabled : c.settings.enabled = true
  keying : c.seq.state = .keying → c.seq.sent = 0
  sending : c.seq.state = .sending → 1 ≤ c.seq.sent ∧ c.seq.sent ≤ a.n
  ended : c.seq.state = .tail ∨ c.seq.state = .hold → c.seq.sent = a.n
  lines : c.seq.state ≠ .sending ∨ c.seq.dry = true → c.seq.lines = 0

theorem SeqState.keyed_ne {q : SeqState} (h : q.keyed = false) : q ≠ .keying ∧ q ≠ .sending ∧ q ≠ .tail ∧ q ≠ .hold := by
  cases q <;> simp_all [SeqState.keyed]

theorem SeqState.ne_disabled_of_keyed {q : SeqState} (h : q.keyed = true) : q ≠ .disabled := by
  rintro rfl
  cases h

theorem channelSound_resting {c : Channel} (unkeyed : c.seq.state.keyed = false) : ChannelSound c ↔ RestingSound c := by
  obtain ⟨notKeying, notSending, notTail, notHold⟩ := SeqState.keyed_ne unkeyed
  constructor
  · rintro ⟨enabled, empty, head, tail, sized, rest, -, -, -, lines⟩
    refine ⟨enabled, empty, ?_, sized, (rest unkeyed).1, (rest unkeyed).2, lines (.inl notSending)⟩
    cases queue : c.queue with
    | nil => simp
    | cons a q =>
      rw [queue] at head tail
      rw [unkeyed] at head
      simpa using ⟨by simpa using head, tail⟩
  · rintro ⟨enabled, empty, waits, sized, sent, dry, lines⟩
    refine ⟨enabled, empty, ?_, fun e he => waits e (List.mem_of_mem_tail he), sized, fun _ => ⟨sent, dry⟩,
      fun h => absurd h notKeying, fun h => absurd h notSending, fun h => absurd h (by simp [notTail, notHold]), fun _ => lines⟩
    rw [unkeyed]
    constructor
    · exact fun h => absurd h (by simp)
    · rintro ⟨e, he, active⟩
      exact absurd active (waits e (List.mem_of_mem_head? he))

theorem channelSound_keyed {c : Channel} (keyed : c.seq.state.keyed = true) :
    ChannelSound c ↔ ∃ a rest, KeyedSound c a rest := by
  have notDisabled := SeqState.ne_disabled_of_keyed keyed
  constructor
  · rintro ⟨enabled, -, head, tail, sized, -, keying, sending, ended, lines⟩
    obtain ⟨a, first, active⟩ := head.mp keyed
    cases queue : c.queue with
    | nil => simp [queue] at first
    | cons b rest =>
      rw [queue] at first tail sized sending ended
      obtain rfl : b = a := by simpa using first
      refine ⟨b, rest, queue, active, tail, sized, ?_, keying, fun h => ?_, fun h => ended h b rfl, lines⟩
      · simpa [notDisabled] using enabled
      · exact ⟨(sending h).1, (sending h).2 b rfl⟩
  · rintro ⟨a, rest, queue, active, waits, sized, enabled, keying, sending, ended, lines⟩
    unfold ChannelSound
    rw [queue]
    exact ⟨by simp [notDisabled, enabled], fun h => absurd h notDisabled, by simp [keyed, active], waits, sized,
      by simp [keyed], keying, fun h => ⟨(sending h).1, by simpa using (sending h).2⟩, fun h => by simpa using ended h, lines⟩

/-- New settings of a queue: each part of it that waits may change while it goes on waiting, and the head keeps its state and
its length. -/
theorem ChannelSound.requeue {c : Channel} (sound : ChannelSound c) (f : List Entry → List Entry)
    (empty : c.settings.enabled = false → f [] = [])
    (head : ∀ a rest, a.state = .active → ∃ b, b.state = .active ∧ b.n = a.n ∧ f (a :: rest) = b :: f rest)
    (waits : ∀ q, (∀ e ∈ q, e.state ≠ .active) → ∀ e ∈ f q, e.state ≠ .active)
    (sized : ∀ q, (∀ e ∈ q, 1 ≤ e.n ∧ e.n ≤ 8192) → ∀ e ∈ f q, 1 ≤ e.n ∧ e.n ≤ 8192) :
    ChannelSound { c with queue := f c.queue } := by
  cases keyed : c.seq.state.keyed with
  | false =>
    have rest := (channelSound_resting keyed).mp sound
    refine (channelSound_resting (c := { c with queue := f c.queue }) keyed).mpr { rest with
      empty := fun h => ?_
      waits := waits _ rest.waits
      sized := sized _ rest.sized }
    show f c.queue = []
    rw [rest.empty h, empty (rest.enabled.mp h)]
  | true =>
    obtain ⟨a, q, on⟩ := (channelSound_keyed keyed).mp sound
    obtain ⟨b, active, n, eq⟩ := head a q on.active
    refine (channelSound_keyed (c := { c with queue := f c.queue }) keyed).mpr ⟨b, f q, { on with
      queue := by simp only [on.queue, eq]
      active := active
      waits := waits _ on.waits
      sized := by rw [← eq]; exact sized _ on.sized
      sending := by rw [n]; exact on.sending
      ended := by rw [n]; exact on.ended }⟩

/-- The flags, the strobe, and the lines' return to rest are free. -/
theorem ChannelSound.reseq {c : Channel} {q : Sequencer} (sound : ChannelSound c) (state : q.state = c.seq.state)
    (sent : q.sent = c.seq.sent) (dry : q.dry = c.seq.dry) (lines : q.lines = c.seq.lines ∨ q.lines = 0) :
    ChannelSound { c with seq := q } := by
  obtain ⟨enabled, empty, head, tail, sized, rest, keying, sending, ended, still⟩ := sound
  simp only [ChannelSound, state, sent, dry]
  refine ⟨enabled, empty, head, tail, sized, rest, keying, sending, ended, fun h => ?_⟩
  obtain lines | lines := lines
  · exact lines.trans (still h)
  · exact lines

/-! ### The work -/

/-- Where one channel alone changes, that one is to be judged. -/
theorem channelsSound_of_chan {s t : State} (n : Chan) (sound : ChannelsSound s) (others : ∀ m, m ≠ n → t.chan m = s.chan m)
    (here : ChannelSound (t.chan n)) : ChannelsSound t := by
  intro m
  by_cases h : m = n
  · exact h ▸ here
  · rw [others m h]
    exact sound m

theorem channelSound_erase {c : Channel} {e : Entry} (sound : ChannelSound c) (waits : e.state ≠ .active) :
    ChannelSound { c with queue := c.queue.erase e } := by
  refine sound.requeue (fun q => q.erase e) (by simp) (fun a rest active => ⟨a, active, rfl, ?_⟩)
    (fun q h x hx => h x (List.mem_of_mem_erase hx)) (fun q h x hx => h x (List.mem_of_mem_erase hx))
  have : a ≠ e := fun h => waits (h ▸ active)
  simp [this]

/-- A queued entry that is not the active batch is not ACTIVE. -/
theorem state_ne_active_of_mem {c : Channel} {e : Entry} (sound : ChannelSound c) (queued : e ∈ c.queue)
    (waits : c.seq.state.keyed = true → e.state ≠ .active) : e.state ≠ .active := by
  cases keyed : c.seq.state.keyed with
  | false => exact ((channelSound_resting keyed).mp sound).waits e queued
  | true => exact waits keyed

theorem contextEntry_state {c : Context} {e : Entry} {s : State} (h : contextEntry c s = some e) :
    e.tag = c.tag ∧ e.state = .assembling := by
  simpa using List.find?_some h

theorem contextEntry_mem {c : Context} {e : Entry} {s : State} (h : contextEntry c s = some e) :
    e ∈ (s.chan c.chan).queue := List.mem_of_find?_eq_some h

theorem awaitsSymbol_iff (c : Channel) : c.awaitsSymbol = true ↔ ∃ a rest, c.queue = a :: rest ∧
    (c.seq.state = .keying ∨ c.seq.state = .sending ∧ c.seq.sent < a.n) := by
  unfold Channel.awaitsSymbol
  cases state : c.seq.state <;> cases queue : c.queue <;> simp

theorem awaitsTail_iff (c : Channel) : c.awaitsTail = true ↔ ∃ a rest, c.queue = a :: rest ∧
    c.seq.state = .sending ∧ a.n ≤ c.seq.sent := by
  unfold Channel.awaitsTail
  cases state : c.seq.state <;> cases queue : c.queue <;> simp

/-- The end of the active batch leaves an idle channel, with its lines at rest where they were. -/
theorem channelSound_ended {c : Channel} {q : Sequencer} (sound : ChannelSound c) (keyed : c.seq.state.keyed = true)
    (state : q.state = .idle) (sent : q.sent = 0) (dry : q.dry = false) (lines : q.lines = 0) :
    ChannelSound { c with queue := c.queue.tail, seq := q } := by
  obtain ⟨a, rest, on⟩ := (channelSound_keyed keyed).mp sound
  refine (channelSound_resting (by simp [state, SeqState.keyed])).mpr
    ⟨by simp [state, on.enabled], by simp [state], ?_, ?_, sent, dry, lines⟩
  · simpa [on.queue] using on.waits
  · simp only [on.queue, List.tail_cons]
    exact fun e he => on.sized e (List.mem_cons_of_mem _ he)

theorem channelSound_presented {c : Channel} {v : Sym} (sound : ChannelSound c) (awaits : c.awaitsSymbol = true) :
    ChannelSound { c with seq := { (if c.seq.dry then c.seq else { c.seq with lines := v, strobe := some 0 }) with
      state := .sending, sent := c.seq.sent + 1 } } := by
  obtain ⟨a, rest, on⟩ := (channelSound_keyed (awaitsSymbol_keyed awaits)).mp sound
  obtain ⟨b, r, queue, next⟩ := (awaitsSymbol_iff c).mp awaits
  obtain ⟨rfl, -⟩ : a = b ∧ rest = r := by simpa [on.queue] using queue
  obtain ⟨low, -⟩ := on.sized a (by simp)
  refine (channelSound_keyed rfl).mpr ⟨a, rest, { on with
    keying := by simp, ended := by simp
    sending := fun _ => ⟨by simp, ?_⟩
    lines := ?_ }⟩
  · obtain state | ⟨-, below⟩ := next
    · simpa [on.keying state] using low
    · exact below
  · cases dry : c.seq.dry with
    | true => simpa [dry] using on.lines (.inr dry)
    | false => simp [dry]

/-- Each kind of work keeps every channel sound. -/
theorem Work.channelsSound {s t : State} (w : Work s t) (sound : ChannelsSound s) : ChannelsSound t := by
  cases w with
  | aside h => exact fun m => by rw [State.chan_congr h.channels]; exact sound m
  | record b => exact fun m => by rw [State.chan_writeRecord]; exact sound m
  | tick => exact fun m => by rw [refclkTick_chan]; exact (sound m).reseq rfl rfl rfl (.inl rfl)
  | edge =>
    obtain ⟨f, marks, queue⟩ := ppsEdge_chan s
    have state : ∀ e, (f e).state = e.state := fun e => by obtain h | h := marks e <;> simp [h]
    have n : ∀ e, (f e).n = e.n := fun e => by obtain h | h := marks e <;> simp [h]
    intro m
    rw [queue]
    exact (sound m).requeue (List.map f) (by simp) (fun a rest active => ⟨f a, by rw [state, active], n a, rfl⟩)
      (by simp [state]) (by simp [n])
  | check => exact fun m => by rw [changeTimebase_chan]; exact sound m
  | flags n q state sent dry lines =>
    exact channelsSound_of_chan n sound (fun m h => by simp [h]) (by simpa using (sound n).reseq state sent dry lines)
  | settings n c free =>
    obtain ⟨others, q, here, -, unkeyed, state, lines, sent, dry⟩ := replaceSettings_chan free c
    obtain ⟨-, -, -, -, sent0, dry0, lines0⟩ := (channelSound_resting unkeyed).mp (sound n)
    refine channelsSound_of_chan n sound others ?_
    rw [here]
    refine (channelSound_resting ?_).mpr
      ⟨?_, by simp, by simp, by simp, by simpa [sent0] using sent, by simpa [dry0] using dry, by rw [lines, lines0]⟩
    · show q.state.keyed = false
      rw [state]
      split <;> rfl
    · show q.state = .disabled ↔ c.enabled = false
      rw [state]
      cases c.enabled <;> simp
  | key n e rest idle queue =>
    obtain ⟨enabled, -, waits, sized, -, -, lines⟩ := (channelSound_resting (by rw [idle]; rfl)).mp (sound n)
    rw [queue] at waits sized
    refine channelsSound_of_chan n sound (fun m h => by rw [keyHead_chan queue, if_neg h]) ?_
    rw [keyHead_chan queue, if_pos rfl]
    refine (channelSound_keyed rfl).mpr ⟨_, rest, rfl, rfl, fun x hx => waits x (by simp [hx]), ?_, ?_, by simp, by simp,
      by simp, fun _ => lines⟩
    · simpa using sized
    · simpa [idle] using enabled
  | present n awaits =>
    refine channelsSound_of_chan n sound (fun m h => by simp [presentSymbol, h]) ?_
    simpa [presentSymbol, apply_ite Sequencer.sent] using channelSound_presented (v := s.nextSymbol n) (sound n) awaits
  | tail n awaits =>
    have state := awaitsTail_state awaits
    obtain ⟨a, rest, on⟩ := (channelSound_keyed (by rw [state]; rfl)).mp (sound n)
    obtain ⟨b, r, queue, -, above⟩ := (awaitsTail_iff _).mp awaits
    obtain ⟨rfl, -⟩ : a = b ∧ rest = r := by simpa [on.queue] using queue
    have below := (on.sending state).2
    refine channelsSound_of_chan n sound (fun m h => by simp [h]) ?_
    rw [State.chan_setSeq, if_pos rfl]
    exact (channelSound_keyed rfl).mpr ⟨a, rest, { on with
      keying := by simp, sending := by simp, lines := fun _ => rfl, ended := fun _ => by simpa using by omega }⟩
  | hold n inTail =>
    obtain ⟨a, rest, on⟩ := (channelSound_keyed (by rw [inTail]; rfl)).mp (sound n)
    refine channelsSound_of_chan n sound (fun m h => by simp [h]) ?_
    rw [State.chan_setSeq, if_pos rfl]
    exact (channelSound_keyed rfl).mpr ⟨a, rest, { on with
      keying := by simp, sending := by simp, lines := fun _ => on.lines (by simp [inTail])
      ended := fun _ => on.ended (.inl inTail) }⟩
  | finish n o keyed atRest =>
    obtain ⟨a, rest, on⟩ := (channelSound_keyed keyed).mp (sound n)
    refine channelsSound_of_chan n sound (fun m h => by rw [endActive_chan, if_neg h]) ?_
    rw [endActive_chan, if_pos rfl]
    refine channelSound_ended (sound n) keyed rfl rfl rfl ?_
    obtain still | still := atRest
    · exact on.lines (.inl still)
    · exact still
  | takeUp n a e rest held queue =>
    have queue' : ((retireActive n (s.chan n).seq.launchOutcome s).chan n).queue = e :: rest := by
      simp [retireActive_chan, queue]
    obtain ⟨b, r, on⟩ := (channelSound_keyed (by rw [held]; rfl)).mp (sound n)
    obtain ⟨rfl, rfl⟩ : b = a ∧ r = e :: rest := by simpa [on.queue] using queue
    refine channelsSound_of_chan n sound (fun m h => by rw [keyHead_chan queue', if_neg h, retireActive_chan, if_neg h]) ?_
    rw [keyHead_chan queue', if_pos rfl, retireActive_chan, if_pos rfl]
    refine (channelSound_keyed rfl).mpr ⟨_, rest, rfl, rfl, fun x hx => on.waits x (by simp [hx]), ?_, on.enabled,
      by simp, by simp, by simp, fun _ => on.lines (by simp [held])⟩
    have sized := on.sized
    simp only [List.mem_cons, forall_eq_or_imp] at sized ⊢
    exact sized.2
  | discardHeld n a e rest o held queue =>
    have keyed : (s.chan n).seq.state.keyed = true := by rw [held]; rfl
    obtain ⟨b, r, on⟩ := (channelSound_keyed keyed).mp (sound n)
    obtain ⟨rfl, rfl⟩ : b = a ∧ r = e :: rest := by simpa [on.queue] using queue
    refine channelsSound_of_chan n sound (fun m h => by simp [enterIdle_chan, retireActive_chan, h]) ?_
    have ended := channelSound_ended (q := { (s.chan n).seq with
      state := .idle, dry := false, sent := 0, muteAfter := false
      portMute := (s.chan n).seq.portMute || (s.chan n).seq.muteAfter }) (sound n) keyed rfl rfl rfl
      (on.lines (by simp [held]))
    simpa [enterIdle_chan, retireActive_chan] using channelSound_erase ended (on.waits e (by simp))
  | remove n e o queued waits =>
    refine channelsSound_of_chan n sound (fun m h => by simp [h]) ?_
    rw [retire_chan, if_pos rfl]
    exact channelSound_erase (sound n) (state_ne_active_of_mem (sound n) queued waits)
  | insert src h n x unopened fresh enabled inRange =>
    refine channelsSound_of_chan n sound (fun m h => by rw [insertBatch_chan, if_neg h]) ?_
    rw [insertBatch_chan, if_pos rfl]
    refine (sound n).requeue (insertEntry _) (by simp [enabled]) (fun a rest active => ⟨a, active, rfl, ?_⟩)
      (fun q waits y hy => ?_) (fun q sized y hy => ?_)
    · simp [insertEntry, active]
    · obtain rfl | hy := mem_insertEntry.mp hy
      · simp [newEntry]
      · exact waits y hy
    · obtain rfl | hy := mem_insertEntry.mp hy
      · exact headerInRange_n inRange
      · exact sized y hy
  | write k c e bytes opened entry =>
    obtain ⟨-, assembling⟩ := contextEntry_state entry
    have state : ∀ x : Entry, x.state ≠ .active → (if x = e then segmentWritten c e else x).state ≠ .active := fun x hx => by
      by_cases h : x = e
      · simp only [h, if_true, segmentWritten, assembling]
        split <;> simp
      · simpa [h] using hx
    have n : ∀ x, (if x = e then segmentWritten c e else x).n = x.n := fun x => by
      by_cases h : x = e <;> simp [h, segmentWritten]
    refine channelsSound_of_chan c.chan sound (fun m h => by rw [writeSegment_chan, if_neg h]) ?_
    rw [writeSegment_chan, if_pos rfl]
    refine (sound c.chan).requeue (List.map _) (by simp) (fun a rest active => ⟨a, active, rfl, ?_⟩)
      (fun q waits y hy => ?_) (fun q sized y hy => ?_)
    · have : a ≠ e := fun h => by simp [h, assembling] at active
      simp [this]
    · obtain ⟨x, hx, rfl⟩ := List.mem_map.mp hy
      exact state x (waits x hx)
    · obtain ⟨x, hx, rfl⟩ := List.mem_map.mp hy
      rw [n]
      exact sized x hx
  | endBatch k c e o opened entry =>
    obtain ⟨-, assembling⟩ := contextEntry_state entry
    refine channelsSound_of_chan c.chan sound (fun m h => by simp [h]) ?_
    rw [State.chan_setContext, retire_chan, if_pos rfl]
    exact channelSound_erase (sound c.chan) (by simp [assembling])
  | forget => exact fun m => by rw [State.chan_setContext]; exact sound m

theorem channelsSound_invariant : Invariant ChannelsSound where
  congr s t h sound m := by rw [State.chan_congr h.channels]; exact sound m
  work _ _ w := w.channelsSound
  expire s _ := expire_of_work (fun _ _ w => w.channelsSound)
    (fun s t sound m => by rw [changeTimebase_chan]; exact sound m) s
  fullReset s _ m := by
    have here : (resetBlocks s).chan m = Channel.resetValue (s.chan m).seq.fault := by simp [resetBlocks, State.chan]
    rw [here]
    refine (channelSound_resting rfl).mpr ⟨?_, ?_, ?_, ?_, rfl, rfl, rfl⟩ <;>
      simp [Channel.resetValue, Sequencer.resetValue, Settings.resetValue]
  controlReset s _ m := by
    rw [controlReset_chan]
    have state : (Channel.controlReset { s.chan m with queue := [] }).seq.state =
      if (s.chan m).settings.enabled then .idle else .disabled := rfl
    refine (channelSound_resting ?_).mpr ⟨?_, fun _ => rfl, ?_, ?_, rfl, rfl, rfl⟩
    · rw [state]
      split <;> rfl
    · rw [state]
      show _ ↔ (s.chan m).settings.enabled = false
      cases (s.chan m).settings.enabled <;> simp
    · simp [Channel.controlReset]
    · simp [Channel.controlReset]

/-- Settles O57: a queue changes only behind its active batch, and a sequencer's state moves on together with its symbols sent,
its lines and its queue's head. -/
theorem channelsStaySound : Obligations.ChannelsStaySound := fun _ _ sound run => channelsSound_invariant.step sound run

end Sys2Proof.Machine
end

section
/-! PROOFS. The OPEN contexts and the ASSEMBLING entries stay in step, and no tag is held twice (R91, R97, R119). -/

namespace Sys2Proof.Machine

/-! ### The tags held -/

theorem tagsHeld_eq (s : State) : s.tagsHeld = (s.chan 0).queue.map (fun e => e.tag) ++ ((s.chan 1).queue.map (fun e => e.tag) ++
    ((s.chan 2).queue.map (fun e => e.tag) ++ (s.chan 3).queue.map (fun e => e.tag))) := by
  simp [State.tagsHeld, allChans]

theorem tagsUnique_of_sublist {s t : State}
    (h : ∀ m, ((t.chan m).queue.map (fun e => e.tag)).Sublist ((s.chan m).queue.map (fun e => e.tag)))
    (unique : TagsUnique s) : TagsUnique t := by
  refine unique.sublist ?_
  rw [tagsHeld_eq, tagsHeld_eq]
  exact (h 0).append ((h 1).append ((h 2).append (h 3)))

theorem tagHeld_eq_false (s : State) (tag : BitVec 16) : s.tagHeld tag = false ↔ tag ∉ s.tagsHeld := by
  simp only [State.tagHeld, State.tagsHeld, List.any_eq_false, List.any_eq_true, List.mem_flatMap, List.mem_map, beq_iff_eq]
  push Not
  rfl

/-- A new entry adds its tag to those held. -/
theorem tagsHeld_insert {s t : State} {n : Chan} {e : Entry} (others : ∀ m, m ≠ n → (t.chan m).queue = (s.chan m).queue)
    (here : (t.chan n).queue = insertEntry e (s.chan n).queue) : t.tagsHeld.Perm (e.tag :: s.tagsHeld) := by
  have placed : ((t.chan n).queue.map (fun e => e.tag)).Perm (e.tag :: (s.chan n).queue.map (fun e => e.tag)) := by
    rw [here]
    exact (insertEntry_perm e _).map _
  rw [List.perm_iff_count] at placed ⊢
  intro b
  have count := placed b
  simp only [tagsHeld_eq, List.count_append, List.count_cons] at count ⊢
  match n with
  | 0 => simp only [others 1 (by decide), others 2 (by decide), others 3 (by decide)]; omega
  | 1 => simp only [others 0 (by decide), others 2 (by decide), others 3 (by decide)]; omega
  | 2 => simp only [others 0 (by decide), others 1 (by decide), others 3 (by decide)]; omega
  | 3 => simp only [others 0 (by decide), others 1 (by decide), others 2 (by decide)]; omega

/-- No work makes a second holder of a tag: a new entry's tag is fresh. -/
theorem Work.tagsUnique {s t : State} (w : Work s t) (unique : TagsUnique s) : TagsUnique t := by
  obtain h | ⟨n, e, others, here, new⟩ := w.queues
  · refine tagsUnique_of_sublist (fun m => ?_) unique
    have tag : (fun e : Entry => e.tag) = (fun e => e.tag) ∘ Entry.batch := rfl
    simpa only [List.map_map, ← tag] using (h m).map (fun e => e.tag)
  · unfold TagsUnique
    rw [(tagsHeld_insert others here).nodup_iff, List.nodup_cons]
    exact ⟨(tagHeld_eq_false s e.tag).mp new.fresh, unique⟩

/-- A tag names one entry of one queue. -/
theorem entry_of_tag {s : State} (unique : TagsUnique s) {n m : Chan} {e x : Entry} (he : e ∈ (s.chan n).queue)
    (hx : x ∈ (s.chan m).queue) (tag : e.tag = x.tag) : n = m ∧ e = x := by
  have pairs : s.tagsHeld = (allChans.flatMap (fun n => (s.chan n).queue.map (fun e => (n, e)))).map (fun p => p.2.tag) := by
    simp [State.tagsHeld, List.map_flatMap, Function.comp_def]
  have mem : ∀ {n : Chan} {e : Entry}, e ∈ (s.chan n).queue →
      (n, e) ∈ allChans.flatMap (fun n => (s.chan n).queue.map (fun e => (n, e))) := fun {n e} h =>
    List.mem_flatMap.mpr ⟨n, mem_allChans n, List.mem_map_of_mem h⟩
  unfold TagsUnique at unique
  rw [pairs] at unique
  exact Prod.mk.injEq .. ▸ (List.inj_on_of_nodup_map unique (mem he) (mem hx) tag)

theorem queue_nodup {s : State} (unique : TagsUnique s) (n : Chan) : (s.chan n).queue.Nodup :=
  List.Nodup.of_map (fun e => e.tag) (unique.sublist (by
    unfold State.tagsHeld
    exact List.sublist_flatten_of_mem (List.mem_map_of_mem (mem_allChans n))))

/-! ### Contexts and entries -/

/-- Contexts and entries in step, and tags held once. -/
def Matched (s : State) : Prop := ContextsMatch s ∧ TagsUnique s

/-- What the contexts need of an entry. -/
def Entry.assembly (e : Entry) : Bool × Stream × BitVec 16 × Nat × Nat :=
  (decide (e.state = .assembling), e.source, e.tag, e.received, e.n)

theorem assembly_eq_iff (e x : Entry) : e.assembly = x.assembly ↔ (e.state = .assembling ↔ x.state = .assembling) ∧
    e.source = x.source ∧ e.tag = x.tag ∧ e.received = x.received ∧ e.n = x.n := by
  simp [Entry.assembly]

theorem matched_congr {s t : State} (contexts : t.contexts = s.contexts)
    (queues : ∀ m, (t.chan m).queue.map Entry.assembly = (s.chan m).queue.map Entry.assembly) (h : Matched s) : Matched t := by
  obtain ⟨⟨opened, entries⟩, unique⟩ := h
  have carry {a b : State} (same : ∀ m, (b.chan m).queue.map Entry.assembly = (a.chan m).queue.map Entry.assembly)
      {m : Chan} {e : Entry} (he : e ∈ (a.chan m).queue) : ∃ x ∈ (b.chan m).queue, x.assembly = e.assembly :=
    List.mem_map.mp (same m ▸ List.mem_map_of_mem he)
  refine ⟨⟨fun k c hc => ?_, fun n e he => ?_⟩, tagsUnique_of_sublist (fun m => ?_) unique⟩
  · rw [State.context_congr contexts] at hc
    obtain ⟨e, he, state, source, tag, received, expected, rest⟩ := opened k c hc
    obtain ⟨x, hx, same⟩ := carry queues he
    obtain ⟨state', source', tag', received', n'⟩ := (assembly_eq_iff _ _).mp same
    exact ⟨x, hx, state'.mpr state, source'.trans source, tag'.trans tag, received'.trans received, n' ▸ expected, rest⟩
  · obtain ⟨x, hx, same⟩ := carry (fun m => (queues m).symm) he
    obtain ⟨state', source', tag', received', n'⟩ := (assembly_eq_iff _ _).mp same
    rw [State.context_congr contexts, ← source', ← tag', ← received', ← n', ne_eq, ← state']
    exact entries n x hx
  · have tag : (fun e : Entry => e.tag) = (fun a => a.2.2.1) ∘ Entry.assembly := rfl
    rw [tag, ← List.map_map, ← List.map_map, queues]

/-- The batch of a context, by its tag. -/
theorem context_entry {s : State} (h : Matched s) {k : Stream} {c : Context} (opened : s.context k = some c) {n : Chan}
    {e : Entry} (he : e ∈ (s.chan n).queue) (tag : e.tag = c.tag) :
    n = c.chan ∧ e.state = .assembling ∧ e.source = k ∧ e.received = c.received ∧ c.expected = segmentsFor e.n ∧
      c.next < c.expected ∧ c.received = 64 * c.next := by
  obtain ⟨x, hx, state, source, tag', received, rest⟩ := h.1.1 k c opened
  obtain ⟨rfl, rfl⟩ := entry_of_tag h.2 he hx (tag.trans tag'.symm)
  exact ⟨rfl, state, source, received, rest⟩

/-- A removal takes the entry out together with its context (R91, R103). -/
theorem retire_matched {s : State} (h : Matched s) {n : Chan} {e : Entry} (queued : e ∈ (s.chan n).queue)
    (o : LaunchOutcome) (k : Nat) : Matched (retire n e o k s) := by
  have mem {m : Chan} {x : Entry} : x ∈ ((retire n e o k s).chan m).queue ↔ x ∈ (s.chan m).queue ∧ x.tag ≠ e.tag := by
    have only (hx : x ∈ (s.chan m).queue) : x.tag = e.tag → m = n ∧ x = e := entry_of_tag h.2 hx queued
    rw [retire_chan]
    by_cases hm : m = n
    · subst hm
      simp only [if_true, (queue_nodup h.2 m).mem_erase_iff]
      exact ⟨fun ⟨ne, hx⟩ => ⟨hx, fun tag => ne (only hx tag).2⟩, fun ⟨hx, tag⟩ => ⟨fun eq => tag (eq ▸ rfl), hx⟩⟩
    · simp only [if_neg hm]
      exact ⟨fun hx => ⟨hx, fun tag => hm (only hx tag).1⟩, fun ⟨hx, _⟩ => hx⟩
  refine ⟨⟨fun j c hc => ?_, fun m x hx => ?_⟩, tagsUnique_of_sublist (fun m => ?_) h.2⟩
  · rw [retire_context] at hc
    split at hc
    · cases hc
    · next kept =>
      obtain ⟨x, hx, state, source, rest⟩ := h.1.1 j c hc
      refine ⟨x, mem.mpr ⟨hx, fun tag => ?_⟩, state, source, rest⟩
      obtain ⟨-, rfl⟩ := entry_of_tag h.2 hx queued tag
      exact kept ⟨state, source.symm⟩
  · obtain ⟨hx, other⟩ := mem.mp hx
    obtain ⟨assembling, complete⟩ := h.1.2 m x hx
    refine ⟨fun state => ?_, complete⟩
    obtain ⟨c, hc, chan, tag⟩ := assembling state
    refine ⟨c, ?_, chan, tag⟩
    rw [retire_context, if_neg]
    · exact hc
    · rintro ⟨state', source⟩
      obtain ⟨d, hd, -, tag'⟩ := (h.1.2 n e queued).1 state'
      rw [← source] at hd
      exact other (by rw [← tag, ← tag', Option.mem_unique hc hd])
  · rw [retire_chan]
    split
    · next hm => rw [hm]; exact List.erase_sublist.map _
    · exact .refl _

theorem retireActive_matched {s : State} (h : Matched s) (n : Chan) (o : LaunchOutcome) : Matched (retireActive n o s) :=
  retireActive_induction h fun _ first => retire_matched h (List.mem_of_mem_head? first) o _

theorem enterIdle_matched {s : State} (h : Matched s) (n : Chan) : Matched (enterIdle n s) := by
  refine matched_congr (s := s) (by simp [enterIdle_eq]) (fun m => ?_) h
  rw [enterIdle_chan]
  split
  · next hm => rw [hm]
  · rfl

/-- A READY head becomes ACTIVE; neither has a context. -/
theorem keyHead_matched {s : State} (h : Matched s) {n : Chan} {e : Entry} {rest : List Entry}
    (queue : (s.chan n).queue = e :: rest) (ready : e.state = .ready) (dry : Bool) : Matched (keyHead n dry s) := by
  refine matched_congr (s := s) (by simp) (fun m => ?_) h
  rw [keyHead_chan queue]
  split
  · next hm => simp [hm, queue, Entry.assembly, ready]
  · rfl

/-- A committed entry comes with its context (R125). -/
theorem insertBatch_matched {s : State} (h : Matched s) {src : Stream} {head : Header} {n : Chan} {x : Instants}
    (unopened : s.context src = none) (unique : TagsUnique (insertBatch src head n x s))
    (inRange : headerInRange head = true) : Matched (insertBatch src head n x s) := by
  have context (k : Stream) : (insertBatch src head n x s).context k =
      if k = src then some ⟨head.tag, n, segmentsFor head.n.toNat, 0, 0⟩ else s.context k := by
    show (State.setContext _ src _).context k = _
    rw [State.context_setContext]
    rfl
  have mem {m : Chan} {y : Entry} : y ∈ ((insertBatch src head n x s).chan m).queue ↔
      (m = n ∧ y = newEntry src head x (s.pool.free.take (blocksFor head.n.toNat))) ∨ y ∈ (s.chan m).queue := by
    rw [insertBatch_chan]
    by_cases hm : m = n
    · simp only [hm, if_true, mem_insertEntry, true_and]
    · simp only [hm, if_false, false_and, false_or]
  obtain ⟨low, -⟩ := headerInRange_n inRange
  refine ⟨⟨fun k c hc => ?_, fun m y hy => ?_⟩, unique⟩
  · rw [context] at hc
    split at hc
    · next hk =>
      obtain rfl : _ = c := Option.some.inj hc
      have : 0 < segmentsFor head.n.toNat := by unfold segmentsFor; omega
      exact ⟨_, mem.mpr (.inl ⟨rfl, rfl⟩), rfl, hk.symm, rfl, rfl, rfl, this, rfl⟩
    · obtain ⟨y, hy, rest⟩ := h.1.1 k c hc
      exact ⟨y, mem.mpr (.inr hy), rest⟩
  · obtain ⟨rfl, rfl⟩ | hy := mem.mp hy
    · refine ⟨fun _ => ⟨_, by rw [context]; exact if_pos rfl, rfl, rfl⟩, fun state => absurd rfl state⟩
    · obtain ⟨assembling, complete⟩ := h.1.2 m y hy
      refine ⟨fun state => ?_, complete⟩
      obtain ⟨c, hc, rest⟩ := assembling state
      refine ⟨c, ?_, rest⟩
      rw [context, if_neg]
      · exact hc
      · intro source
        rw [source, unopened] at hc
        cases hc

/-- The symbols received after a segment: the batch's last one completes it (R96, R97). -/
theorem segmentCount_received {n next : Nat} (_below : next < segmentsFor n) :
    if next + 1 = segmentsFor n then 64 * next + segmentCount n (segmentsFor n) next = n
    else 64 * next + segmentCount n (segmentsFor n) next = 64 * (next + 1) := by
  unfold segmentCount
  unfold segmentsFor at *
  split <;> omega

/-- A segment moves the entry and its context on together; with the last one the entry is READY and the context FREE (R97). -/
theorem writeSegment_matched {s : State} (h : Matched s) {k : Stream} {c : Context} {e : Entry} (bytes : List Byte)
    (opened : s.context k = some c) (entry : contextEntry c s = some e)
    (unique : TagsUnique (writeSegment k c e bytes s)) : Matched (writeSegment k c e bytes s) := by
  have queued := contextEntry_mem entry
  obtain ⟨tag, assembling⟩ := contextEntry_state entry
  obtain ⟨-, -, source, received, expected, below, count⟩ := context_entry h opened queued tag
  have progress := segmentCount_received (expected ▸ below)
  rw [← expected, ← count] at progress
  have context (j : Stream) : (writeSegment k c e bytes s).context j =
      if j = k then (if c.next + 1 = c.expected then none else some { c with
        next := c.next + 1, received := c.received + segmentCount e.n c.expected c.next }) else s.context j := by
    unfold writeSegment
    rw [State.context_setContext]
    simp only [decide_eq_true_eq]
    rfl
  have mem {m : Chan} {y : Entry} : y ∈ ((writeSegment k c e bytes s).chan m).queue ↔
      (m = c.chan ∧ y = segmentWritten c e) ∨ (y ∈ (s.chan m).queue ∧ y ≠ e) := by
    have only (hy : e ∈ (s.chan m).queue) : m = c.chan := (entry_of_tag h.2 hy queued rfl).1
    rw [writeSegment_chan]
    by_cases hm : m = c.chan
    · subst hm
      simp only [if_true, true_and, List.mem_map]
      constructor
      · rintro ⟨x, hx, rfl⟩
        by_cases he : x = e
        · simp [he]
        · simp [he, hx]
      · rintro (rfl | ⟨hy, ne⟩)
        · exact ⟨e, queued, by simp⟩
        · exact ⟨y, hy, by simp [ne]⟩
    · simp only [hm, if_false, false_and, false_or]
      exact ⟨fun hy => ⟨hy, fun eq => hm (only (eq ▸ hy))⟩, fun ⟨hy, _⟩ => hy⟩
  refine ⟨⟨fun j d hd => ?_, fun m y hy => ?_⟩, unique⟩
  · rw [context] at hd
    split at hd
    · next hj =>
      split at hd
      · cases hd
      · next more =>
        obtain rfl : _ = d := Option.some.inj hd
        rw [if_neg more] at progress
        refine ⟨segmentWritten c e, mem.mpr (.inl ⟨rfl, rfl⟩), ?_, source.trans hj.symm, tag, rfl, expected, ?_, progress⟩
        · simp [segmentWritten, more, assembling]
        · show c.next + 1 < c.expected
          omega
    · next hj =>
      obtain ⟨y, hy, state, source', rest⟩ := h.1.1 j d hd
      exact ⟨y, mem.mpr (.inr ⟨hy, fun eq => hj (source'.symm.trans (eq ▸ source))⟩), state, source', rest⟩
  · obtain ⟨rfl, rfl⟩ | ⟨hy, other⟩ := mem.mp hy
    · by_cases last : c.next + 1 = c.expected
      · rw [if_pos last] at progress
        exact ⟨fun state => by simp [segmentWritten, last] at state, fun _ => progress⟩
      · refine ⟨fun _ => ⟨{ c with
            next := c.next + 1, received := c.received + segmentCount e.n c.expected c.next }, ?_, rfl, tag.symm⟩,
          fun state => absurd assembling (by simpa [segmentWritten, last] using state)⟩
        show Membership.mem ((writeSegment k c e bytes s).context e.source) _
        rw [context, source, if_pos rfl, if_neg last]
        rfl
    · obtain ⟨waits, complete⟩ := h.1.2 m y hy
      refine ⟨fun state => ?_, complete⟩
      obtain ⟨d, hd, chan, tag'⟩ := waits state
      refine ⟨d, ?_, chan, tag'⟩
      rw [context, if_neg]
      · exact hd
      · intro hj
        rw [hj, opened] at hd
        obtain rfl : c = d := Option.some.inj hd
        exact other (entry_of_tag h.2 hy queued (tag'.symm.trans tag.symm)).2

theorem Work.matched {s t : State} (w : Work s t) (h : Matched s) : Matched t := by
  have unique : TagsUnique t := w.tagsUnique h.2
  have same (contexts : t.contexts = s.contexts) (queues : ∀ m, (t.chan m).queue = (s.chan m).queue) : Matched t :=
    matched_congr contexts (fun m => by rw [queues]) h
  cases w with
  | aside a => exact same a.contexts fun m => by rw [State.chan_congr a.channels]
  | record b => exact same (by simp) fun m => by simp
  | tick => exact same rfl fun m => by rw [refclkTick_chan]
  | edge =>
    obtain ⟨f, marks, queue⟩ := ppsEdge_chan s
    obtain ⟨-, contexts, -⟩ := ppsEdge_keeps s
    have kept : Entry.assembly ∘ f = Entry.assembly := by
      funext e
      obtain h | h := marks e <;> simp [h, Entry.assembly]
    exact matched_congr contexts (fun m => by rw [queue, List.map_map, kept]) h
  | check => exact same (by simp [changeTimebase]) fun m => by simp
  | flags n | tail n | hold n | present n =>
    exact same rfl fun m => by by_cases hm : m = n <;> simp [presentSymbol, hm]
  | settings n c free =>
    obtain ⟨others, q, here, empty, -⟩ := replaceSettings_chan free c
    obtain ⟨d, b, eq⟩ := replaceSettings_cases n c s
    refine same (by simp [eq]) fun m => ?_
    by_cases hm : m = n
    · rw [hm, here, empty]
    · rw [others m hm]
  | key n e rest idle queue judged => exact keyHead_matched h queue (judgeEntry_none judged).1 _
  | finish n o => exact enterIdle_matched (retireActive_matched h n o) n
  | takeUp n a e rest held queue judged =>
    have next : ((retireActive n (s.chan n).seq.launchOutcome s).chan n).queue = e :: rest := by
      simp [retireActive_chan, queue]
    exact keyHead_matched (retireActive_matched h n _) next (judgeEntry_none judged).1 _
  | discardHeld n a e rest o held queue =>
    exact enterIdle_matched (retire_matched (retireActive_matched h n _) (by simp [retireActive_chan, queue]) o 0) n
  | remove n e o queued => exact retire_matched h queued o 0
  | insert src head n x unopened fresh enabled inRange => exact insertBatch_matched h unopened unique inRange
  | write k c e bytes opened entry => exact writeSegment_matched h bytes opened entry unique
  | endBatch k c e o opened entry =>
    obtain ⟨tag, assembling⟩ := contextEntry_state entry
    obtain ⟨-, -, source, -⟩ := context_entry h opened (contextEntry_mem entry) tag
    have closed : ((retire c.chan e o 0 s).setContext k none) = retire c.chan e o 0 s := by
      simp [retire, State.closeContext, assembling, State.setContext, source]
    rw [closed]
    exact retire_matched h (contextEntry_mem entry) o 0
  | forget k c opened gone =>
    obtain ⟨e, he, state, -, tag, -⟩ := h.1.1 k c opened
    exact absurd gone (by simpa [contextEntry] using ⟨e, he, tag, state⟩)

/-- Without queue entries and OPEN contexts there is nothing to match. -/
theorem matched_of_empty {s : State} (queues : ∀ n, (s.chan n).queue = []) (contexts : ∀ k, s.context k = none) :
    Matched s := by
  refine ⟨⟨fun k c hc => ?_, fun n e he => ?_⟩, ?_⟩
  · rw [contexts k] at hc
    cases hc
  · rw [queues n] at he
    cases he
  · unfold TagsUnique
    rw [tagsHeld_eq]
    simp [queues]

theorem matched_invariant : Invariant Matched where
  congr s t same := matched_congr same.contexts fun m => by rw [State.chan_congr same.channels]
  work _ _ w := w.matched
  expire s _ := expire_of_work (fun _ _ w => w.matched)
    (fun s t h => matched_congr (s := s) (by simp [changeTimebase]) (fun m => by simp) h) s
  fullReset s _ := matched_of_empty (fun n => by simp [resetBlocks, State.chan, Channel.resetValue])
    fun k => by simp [resetBlocks, State.reset, State.context, contextsReset]
  controlReset s h := by
    refine matched_of_empty (fun n => by rw [controlReset_chan]; rfl) fun k => ?_
    rw [controlReset_context]
    split
    · rfl
    · next none =>
      cases opened : s.context k with
      | none => rfl
      | some c =>
        obtain ⟨e, he, state, source, -⟩ := h.1.1 k c opened
        exact absurd ⟨c.chan, e, he, state, source⟩ none

/-- Settles O56: an entry and its context are made, moved on and removed together, found by the tag that no other entry
holds. -/
theorem contextsStayMatched : Obligations.ContextsStayMatched := fun _ _ contexts unique run =>
  matched_invariant.step (P := Matched) ⟨contexts, unique⟩ run

end Sys2Proof.Machine
end

section
/-! PROOFS. Steps, the notices at an event's end, the full reset and its values, and the silence while RESET_N is asserted. -/

namespace Sys2Proof.Machine

/-! ### Steps -/

/-- Settles O1: the step is the match on the commands that wait. -/
theorem stepRunsFrontCommand : Obligations.StepRunsFrontCommand := by
  refine ⟨fun _ _ => rfl, fun c rest s queue => ?_, fun s queue => ?_⟩
  · unfold step
    rw [queue]
  · unfold step
    rw [queue]

/-- Every command answers a next state. -/
theorem exec_next (c : Instr) (s : State) : ∃ t, exec c s = .next t := by
  cases c with
  | fullReset cause => cases cause <;> exact ⟨_, rfl⟩
  | _ => exact ⟨_, rfl⟩

/-- No event touches the commands that wait. -/
theorem Event.pending {s t : State} (e : Event s t) : t.pending = s.pending := by
  cases e with
  | level work => exact work.frame.2
  | done work => rw [settle_pending, work.frame.2]
  | expire => rw [settle_pending, (forChans_works cutTimebase_works allChans _).frame.2]; simp [changeTimebase]
  | reply f room work => exact work.frame.2
  | sent | fullReset => rw [settle_pending]; rfl
  | assertReset | endReset => rfl
  | controlReset p => rw [settle_pending, controlReset_pending]; rfl

/-- Settles O2: every arm is an event, and no event touches the commands that wait. -/
theorem everyCommandAnswersNext : Obligations.EveryCommandAnswersNext := fun c s => by
  obtain ⟨t, run⟩ := exec_next c s
  exact ⟨t, run, (exec_event run).pending⟩

/-! ### Notices -/

/-- The first kind of a set is the pending one with the lowest code (R174). -/
theorem first?_eq_some {x : NoticeSet} {k : NoticeKind} (pending : x.has k = true)
    (first : ∀ j : NoticeKind, j.code.toNat < k.code.toNat → x.has j = false) : x.first? = some k := by
  have order : ∀ k : NoticeKind, ∃ before after, allNotices = before ++ k :: after ∧
      ∀ j ∈ before, j.code.toNat < k.code.toNat := by
    intro k
    cases k
    · exact ⟨[], _, rfl, by decide⟩
    · exact ⟨[.timebase], _, rfl, by decide⟩
    · exact ⟨[.timebase, .link], _, rfl, by decide⟩
    · exact ⟨[.timebase, .link, .directive], _, rfl, by decide⟩
    · exact ⟨[.timebase, .link, .directive, .channel], _, rfl, by decide⟩
    · exact ⟨[.timebase, .link, .directive, .channel, .exception], _, rfl, by decide⟩
    · exact ⟨[.timebase, .link, .directive, .channel, .exception, .map], _, rfl, by decide⟩
  obtain ⟨before, after, kinds, lower⟩ := order k
  have none : before.find? (fun k => x.has k) = none := List.find?_eq_none.mpr fun j hj => by simp [first j (lower j hj)]
  rw [NoticeSet.first?, kinds, List.find?_append, none, Option.none_or, List.find?_cons_of_pos pending]

theorem notices_eq_empty {x : NoticeSet} (none : ∀ k, x.has k = false) : x = NoticeSet.empty := by
  have h := NoticeSet.first?_eq_none (x := x)
  exact h.mp (List.find?_eq_none.mpr fun k _ => by simp [none k])

/-- A notice as it is sent, in one update (R157, R174). -/
theorem sendNotice_eq (k : NoticeKind) {s : State} (out : s.port.out = []) : sendNotice k s = { s with
    port := { s.port with out := [⟨k.code, 0, s.noticeBody k⟩], notices := s.port.notices.put false k }
    ring := { s.ring with mark := if k = .exception then none else s.ring.mark } } := by
  unfold sendNotice noticeSent
  dsimp only
  split <;> simp [State.enqueue, State.setPort, out]

/-- Settles O3: nothing is sent where a frame waits, a reset is pending or no kind is; else the first kind is. -/
theorem noticeSentAtEventEnd : Obligations.NoticeSentAtEventEnd := by
  refine fun s => ⟨?_, fun k out reset pending first => ?_⟩
  · rintro (waiting | reset | none)
    · exact settle_of_out waiting
    · exact settle_of_resetPending reset
    · exact settle_of_noNotice (notices_eq_empty none)
  · rw [settle_of_first out reset (first?_eq_some pending first), sendNotice_eq k out]

/-! ### The full reset -/

/-- Settles O4: each field of the reset values, with what `resetBlocks` keeps. -/
theorem fullResetValues : Obligations.FullResetValues := fun s straps => by
  have pool : (resetBlocks s).pool = ⟨List.range 384, s.pool.cells⟩ := by simp only [resetBlocks, freeListReset_eq]
  have chan (n : Chan) : (resetBlocks s).chan n = Channel.resetValue (s.chan n).seq.fault := by
    simp [resetBlocks, State.chan]
  refine ⟨assertReset s, endReset straps (assertReset s), rfl, rfl, rfl, rfl, rfl, rfl, rfl, rfl, rfl, fun i => ?_,
    fun n => ?_, rfl, rfl, fun k => ?_, pool, rfl, rfl, ?_, rfl, rfl⟩
  · show channelMapReset[i] = none
    simp [channelMapReset]
  · exact chan n
  · show contextsReset[k] = none
    simp [contextsReset]
  · obtain ⟨rate1, rate0⟩ := straps
    cases rate1 <;> cases rate0 <;> rfl

/-- Settles O5: `event` does nothing while RESET_N is asserted, and the pins' events follow their levels alone. -/
theorem quietWhileResetAsserted : Obligations.QuietWhileResetAsserted := fun c s asserted => by
  cases c with
  | fullReset cause =>
    cases cause with
    | resetN => trivial
    | request straps => exact event_asserted asserted _
  | resetNRelease straps => trivial
  | exciterFaultAssert n | exciterFaultClear n | pwrwarnAssert | pwrwarnRelease =>
    exact congrArg Host.Outcome.next (if_pos asserted)
  | _ => exact event_asserted asserted _

/-- Settles O52: the reset values meet each property, their queues and contexts being empty. -/
theorem resetIsSound : Obligations.ResetIsSound := by
  have chan (n : Chan) : State.reset.chan n = Channel.resetValue false := by simp [State.reset, State.chan]
  have queue (n : Chan) : (State.reset.chan n).queue = [] := by rw [chan]; rfl
  have pool : State.reset.pool = ⟨List.range 384, []⟩ := by simp only [State.reset, freeListReset_eq]
  have matched : Matched State.reset := matched_of_empty queue fun k => by
    simp [State.reset, State.context, contextsReset]
  have sound : ChannelSound (Channel.resetValue false) := by
    refine (channelSound_resting rfl).mpr ⟨?_, ?_, ?_, ?_, rfl, rfl, rfl⟩ <;>
      simp [Channel.resetValue, Sequencer.resetValue, Settings.resetValue]
  refine ⟨by decide, fun _ _ => rfl, by decide, ?_, ?_, ?_, ⟨by decide, rfl⟩, fun n => by simp [queue],
    fun n => by simp [queue], matched.2, fun n => by rw [chan]; exact sound, fun n keyed => ?_, matched.1,
    fun n => by simp [queue], by decide, by decide, rfl, by rw [pool], by rw [pool]⟩
  · unfold PoolBalanced
    rw [chainBlocks_eq, queue, queue, queue, queue, pool]
    simp only [queueBlocks, List.flatMap_nil, List.append_nil]
    exact .refl _
  · show cellsWfFrom 0 State.reset.pool.cells = true
    rw [pool]
    rfl
  · unfold CountsBounded
    decide
  · rw [chan] at keyed
    cases keyed

end Sys2Proof.Machine
end

section
/-! PROOFS. The control reset, the line's bits and the full reset by request, and the ticks that are counted. -/

namespace Sys2Proof.Machine

/-! ### Records, one after another -/

/-- Records as the ring numbers and dates them from the next number on (R154). -/
def numberedFrom (next : BitVec 16) (x : SiteTime) (bs : List RecordBody) : List LaunchRecord :=
  bs.mapIdx (fun i b => ⟨next + BitVec.ofNat 16 i, b, x⟩)

theorem numberedFrom_cons (next : BitVec 16) (x : SiteTime) (b : RecordBody) (bs : List RecordBody) :
    numberedFrom next x (b :: bs) = ⟨next, b, x⟩ :: numberedFrom (next + 1) x bs := by
  have shift (i : Nat) : next + BitVec.ofNat 16 (i + 1) = next + 1 + BitVec.ofNat 16 i := by
    rw [BitVec.ofNat_add, BitVec.add_assoc, BitVec.add_comm (BitVec.ofNat 16 i)]
    rfl
  simp only [numberedFrom, List.mapIdx_cons, shift]
  simp

/-- Of the records held and those appended the ring keeps the last 64 (R154). -/
theorem appendAll_records (bs : List RecordBody) (x : SiteTime) {r : Ring} (bound : r.records.length ≤ 64) :
    (bs.foldl (fun r b => r.append b x) r).records =
      (r.records ++ numberedFrom r.nextSeq x bs).drop (r.records.length + bs.length - 64) ∧
    (bs.foldl (fun r b => r.append b x) r).nextSeq = r.nextSeq + BitVec.ofNat 16 bs.length := by
  induction bs generalizing r with
  | nil => simp [numberedFrom, Nat.sub_eq_zero_of_le bound]
  | cons b bs ih =>
    have kept : (r.append b x).records = (r.records ++ [(⟨r.nextSeq, b, x⟩ : LaunchRecord)]).drop (r.records.length + 1 - 64) := by
      rw [Ring.append_records]
      by_cases room : r.records.length < 64
      · simp [room, Nat.sub_eq_zero_of_le (show r.records.length + 1 ≤ 64 by omega)]
      · have full : r.records.length = 64 := by omega
        rw [if_neg room, full, List.drop_append_of_le_length (by omega), List.drop_one]
    have length : (r.append b x).records.length = min 64 (r.records.length + 1) := by
      rw [kept, List.length_drop, List.length_append, List.length_singleton]
      omega
    obtain ⟨records, nextSeq⟩ := ih (r := r.append b x) (by omega)
    rw [List.foldl_cons, records, nextSeq]
    have next : (r.append b x).nextSeq = r.nextSeq + 1 := rfl
    constructor
    · rw [length, next, kept, numberedFrom_cons, ← List.drop_append_of_le_length (by simp; omega), List.drop_drop, List.append_assoc]
      congr 1
      rw [List.length_cons]
      omega
    · rw [next, List.length_cons, Nat.add_comm, BitVec.ofNat_add, ← BitVec.add_assoc]
      rfl

/-- Records of one outcome raise its count alone, up to 65,535 (R158). -/
theorem countAll_of_outcome (o : LaunchOutcome) (bs : List RecordBody) (all : ∀ b ∈ bs, b.outcome = o) {c : Counts}
    (bound : c.outcomes[o.code] ≤ 65535) : bs.foldl (fun c b => c.countOutcome b.outcome) c =
      { c with outcomes := c.outcomes.set o.code (min 65535 (c.outcomes[o.code] + bs.length)) } := by
  induction bs generalizing c with
  | nil =>
    have same : min 65535 (c.outcomes[o.code] + 0) = c.outcomes[o.code] := Nat.min_eq_right bound
    rw [List.length_nil, same]
    simp
  | cons b bs ih =>
    have here : (c.countOutcome o).outcomes[o.code] = countInc c.outcomes[o.code] := by simp [Counts.countOutcome]
    rw [List.foldl_cons, all b (by simp), ih (fun b hb => all b (by simp [hb])) (by rw [here]; exact countInc_le bound), here]
    have sum : min 65535 (countInc c.outcomes[o.code] + bs.length) = min 65535 (c.outcomes[o.code] + (bs.length + 1)) := by
      rw [countInc_eq]
      split <;> omega
    simp only [Counts.countOutcome, sum, List.length_cons, Vector.set_set]

/-! ### The control reset -/

theorem resetDue_iff (o : ResetOption) (s : State) :
    resetDue o s = true ↔ s.port.resetPending = some o ∧ s.port.out.length ≤ 1 := by
  simp [resetDue]

theorem controlReset_port (s : State) : (controlReset s).port = .resetValue s.port.lineRate := by
  simp [controlReset, (dropQueues_frame allChans s).lineRate]

/-- No notice outlives a control reset. -/
theorem settle_controlReset (s : State) : settle (controlReset s) = controlReset s :=
  settle_of_noNotice (by rw [controlReset_port]; rfl)

/-- Settles O6: the drops of stage 2 write the records in the order of channels and queues, and stages 1, 3 and 4 set the
values. -/
theorem controlResetStages : Obligations.ControlResetStages := by
  intro s running pending last dropped written
  have run : exec .controlReset s = .next (controlReset s) := by
    show event _ s = _
    rw [event_running running, if_pos ((resetDue_iff .control s).mpr ⟨pending, last⟩), settle_controlReset]
  have records := writeRecords_records (droppedRecords allChans s) s
  have frame := dropQueues_frame allChans s
  refine ⟨controlReset s, run, controlReset_tb s, controlReset_params s, ?_, ?_, fun n => controlReset_chan s n, ?_, ?_,
    fun contexts k => ?_, ?_, fun bound => ?_, fun bound => ?_, controlReset_port s, ?_, controlReset_pending s⟩
  · simp [controlReset, frame.zones]
  · simp [controlReset, frame.channelMap]
  · simp [controlReset, frame.framer, Framer.controlReset, Framer.resetValue]
  · simp [controlReset, frame.dir, Directives.controlReset]
  · rw [controlReset_context]
    split
    · rfl
    · next none =>
      cases opened : s.context k with
      | none => rfl
      | some c =>
        obtain ⟨e, he, state, source, -⟩ := contexts.1 k c opened
        exact absurd ⟨c.chan, e, he, state, source⟩ none
  · rw [controlReset_pool, freeListReset_eq]
  · obtain ⟨kept, next⟩ := appendAll_records (droppedRecords allChans s) s.tb.time bound
    have length : written.length = dropped.length := List.length_mapIdx
    rw [controlReset_ring, length]
    show Ring.mk _ _ none = _
    rw [records.1, records.2, kept, next]
    rfl
  · rw [controlReset_counts, writeRecords_counts, countAll_of_outcome .resetDropped _ _ bound]
    · rfl
    · simp only [droppedRecords, List.mem_flatMap, List.mem_map]
      rintro b ⟨n, -, e, -, rfl⟩
      rfl
  · simp [controlReset, frame.pins]

/-! ### The output queue and the resets -/

/-- The state with other waiting frames. -/
def State.withOut (s : State) (out : List Frame) : State := s.setPort { s.port with out := out }

theorem writeRecord_withOut (s : State) (b : RecordBody) (out : List Frame) :
    (s.withOut out).writeRecord b = (s.writeRecord b).withOut out := by
  apply State.ext <;> simp [State.withOut, State.writeRecord_ring, State.writeRecord_counts, State.writeRecord_port]

theorem closeContext_withOut (s : State) (e : Entry) (out : List Frame) :
    (s.withOut out).closeContext e = (s.closeContext e).withOut out := by
  unfold State.closeContext
  split <;> rfl

theorem dropQueue_withOut (n : Chan) (s : State) (out : List Frame) :
    dropQueue n (s.withOut out) = (dropQueue n s).withOut out := by
  have drop (es : List Entry) (s : State) : es.foldl (fun s e => dropEntry n e s) (s.withOut out) =
      (es.foldl (fun s e => dropEntry n e s) s).withOut out := by
    induction es generalizing s with
    | nil => rfl
    | cons e es ih =>
      have first : dropEntry n e (s.withOut out) = (dropEntry n e s).withOut out := by
        unfold dropEntry
        dsimp only
        rw [writeRecord_withOut, closeContext_withOut]
        rfl
      rw [List.foldl_cons, first, ih]
      rfl
  have queue : ((s.withOut out).chan n).queue = (s.chan n).queue := rfl
  unfold dropQueue
  rw [queue, drop]
  rfl

/-- A control reset empties the output queue, whatever waits there. -/
theorem controlReset_withOut (s : State) (out : List Frame) : controlReset (s.withOut out) = controlReset s := by
  have drop (ns : List Chan) (s : State) :
      forChans dropQueue ns (s.withOut out) = (forChans dropQueue ns s).withOut out := by
    induction ns generalizing s with
    | nil => rfl
    | cons n ns ih =>
      show forChans dropQueue ns (dropQueue n (s.withOut out)) = _
      rw [dropQueue_withOut, ih]
      rfl
  unfold controlReset
  rw [drop]
  generalize forChans dropQueue allChans s = u
  rfl

theorem settle_requestedFullReset (straps : Straps) (s : State) :
    settle (requestedFullReset straps s) = endReset straps (assertReset s) := by
  have same : requestedFullReset straps s = endReset straps (assertReset s) := by
    simp only [requestedFullReset, endReset, assertReset]
  rw [same]
  refine settle_of_noNotice ?_
  simp only [endReset, assertReset, resetBlocks, Port.resetValue]

theorem requestedFullReset_withOut (straps : Straps) (s : State) (out : List Frame) :
    requestedFullReset straps (s.withOut out) = requestedFullReset straps s := by
  simp only [requestedFullReset, resetBlocks, State.withOut, State.setPort]

theorem takePendingReset_full {straps : Straps} {s : State} (pending : s.port.resetPending = some .full) :
    takePendingReset straps s = requestedFullReset straps s := by
  unfold takePendingReset
  rw [pending]

theorem takePendingReset_control {straps : Straps} {s : State} (pending : s.port.resetPending = some .control) :
    takePendingReset straps s = controlReset s := by
  unfold takePendingReset
  rw [pending]

/-- The ten bits of each byte, one byte after another (R161). -/
theorem lineBits_getD (bytes : List Byte) {i j : Nat} (hi : i < bytes.length) (hj : j < 10) :
    (bytes.flatMap byteBits).getD (10 * i + j) true = (byteBits (bytes.getD i 0)).getD j true := by
  induction bytes generalizing i with
  | nil => simp at hi
  | cons b bytes ih =>
    have length : (byteBits b).length = 10 := rfl
    rw [List.flatMap_cons]
    cases i with
    | zero => simp [List.getD_eq_getElem?_getD, List.getElem?_append, length, hj]
    | succ i =>
      have shift : 10 * (i + 1) + j - 10 = 10 * i + j := by omega
      have beyond : ¬ 10 * (i + 1) + j < 10 := by omega
      have := ih (i := i) (by simpa using hi)
      simpa [List.getD_eq_getElem?_getD, List.getElem?_append, length, beyond, shift] using this

theorem lineBits_length (f : Frame) : f.lineBits.length = 10 * f.bytes.length := by
  unfold Frame.lineBits
  generalize f.bytes = bytes
  induction bytes with
  | nil => rfl
  | cons b bytes ih =>
    have : (byteBits b).length = 10 := rfl
    rw [List.flatMap_cons, List.length_append, ih, this, List.length_cons]
    omega

theorem txdLevel_frame {s : State} (running : Running s) {f : Frame} {rest : List Frame} (out : s.port.out = f :: rest)
    (k : Nat) : s.txdLevel k = f.lineBits.getD k true := by
  simp [State.txdLevel, running, out]

/-- Settles O7: the frame leaves, with the last one the reset that waits takes place; the line carries ten bits a byte; and a
request's full reset is RESET_N's two events in one. -/
theorem frameTransmittedAndFullReset : Obligations.FrameTransmittedAndFullReset := by
  refine ⟨fun s named running => ?_, fun s k => ⟨?_, fun f rest running out => ⟨fun beyond => ?_, fun i hi => ?_⟩⟩,
    fun s straps running => ⟨fun pending last => ?_, fun other => ?_⟩⟩
  · have run : exec (.frameTransmitted named) s = .next (settle (frameTransmitted (named.getD s.pins.straps) s)) :=
      event_running running _
    refine ⟨fun out => ?_, fun f rest out stays => ?_, fun f out full => ?_, fun f out control => ?_⟩
    · rw [run, frameTransmitted, out]
    · rw [run, frameTransmitted, out]
      dsimp only
      cases rest with
      | nil =>
        have none : s.port.resetPending = none := stays.resolve_left (by simp)
        simp only [List.isEmpty_nil, if_true, takePendingReset, State.setPort_port, none]
        rfl
      | cons g rest => rfl
    · have due : resetDue .full s = true := (resetDue_iff .full s).mpr ⟨full, by simp [out]⟩
      have request : exec (.fullReset (.request (named.getD s.pins.straps))) s =
          .next (settle (requestedFullReset (named.getD s.pins.straps) s)) := by
        show event _ s = _
        rw [event_running running, if_pos due]
      rw [run, request, frameTransmitted, out]
      show Host.Outcome.next (settle (takePendingReset _ (s.withOut []))) = _
      rw [takePendingReset_full (s := s.withOut []) full, requestedFullReset_withOut]
    · have due : resetDue .control s = true := (resetDue_iff .control s).mpr ⟨control, by simp [out]⟩
      have reset : exec .controlReset s = .next (settle (controlReset s)) := by
        show event _ s = _
        rw [event_running running, if_pos due]
      rw [run, reset, frameTransmitted, out]
      show Host.Outcome.next (settle (takePendingReset _ (s.withOut []))) = _
      rw [takePendingReset_control (s := s.withOut []) control, controlReset_withOut]
  · rintro (asserted | out)
    · simp [State.txdLevel, asserted]
    · unfold State.txdLevel
      rw [out]
      split <;> simp_all
  · rw [txdLevel_frame running out, List.getD_eq_default _ _ (by rwa [lineBits_length])]
  · have bit {j : Nat} (hj : j < 10) : s.txdLevel (10 * i + j) = (byteBits (f.bytes.getD i 0)).getD j true := by
      rw [txdLevel_frame running out]
      exact lineBits_getD f.bytes hi hj
    refine ⟨bit (j := 0) (by decide), fun j hj => ?_, bit (j := 9) (by decide)⟩
    rw [Nat.add_assoc, bit (j := 1 + j) (by omega)]
    interval_cases j <;> rfl
  · refine ⟨assertReset s, endReset straps (assertReset s), rfl, rfl, ?_⟩
    show event _ s = _
    rw [event_running running, if_pos ((resetDue_iff .full s).mpr ⟨pending, last⟩), settle_requestedFullReset]
  · have early : resetDue .full s ≠ true := by
      rw [ne_eq, resetDue_iff]
      rintro ⟨pending, last⟩
      obtain none | waiting := other
      · exact none pending
      · omega
    show event _ s = _
    rw [event_running running, if_neg early]

/-! ### Ticks -/

/-- Settles O8: a tick counts site time, the clearing and the strobes; the clearing's and the strobe's ends wait for their
counts. -/
theorem ticksAreCounted : Obligations.TicksAreCounted := by
  refine ⟨fun s running => event_running running _, fun s running => ?_, fun s n running => ?_⟩
  · have run : exec .clearingComplete s = .next (settle (clearingComplete s)) := event_running running _
    rw [run]
    unfold clearingComplete Config.clearingTicks
    refine ⟨fun complete => ?_, fun early => ?_⟩
    · rw [if_pos complete]
      rfl
    · rw [if_neg early]
  · have run : exec (.strobeWithdrawal n) s = .next (settle (strobeWithdrawal n s)) := event_running running _
    rw [run]
    unfold strobeWithdrawal Config.strobeTicks
    refine ⟨fun complete => ?_, fun early => ?_⟩
    · rw [if_pos complete]
    · rw [if_neg early]

end Sys2Proof.Machine
end

section
/-! PROOFS. The PPS edge and the mid-second check, state by state (R2, R6 to R18). -/

namespace Sys2Proof.Machine

/-! ### What an edge does to site time -/

/-- Site time after a step at edge error `e`, or after the step that a pending time set takes the place of (R2, R18). -/
def Timebase.stepped (t : Timebase) (e : Int) : SiteTime :=
  match t.pendingSet with
  | some v => ⟨v, 0⟩
  | none => t.time.stepAt e

/-- Site time with a pending time set loaded, before its correction (R18). -/
def Timebase.loaded (t : Timebase) (e : Int) : SiteTime :=
  match t.pendingSet with
  | some v => ⟨if 0 ≤ e then v else v - 1, t.time.offset⟩
  | none => t.time

/-- The mid-second check is scheduled anew where a time set is loaded (R5, R18). -/
def Timebase.checkAfter (t : Timebase) (x : SiteTime) : SiteTime :=
  if t.pendingSet.isSome then x.nextMidSecond else t.nextCheck

theorem move_step (t : Timebase) (e : Int) : t.move e .step = { t with
    time := t.stepped e, nextCheck := (t.stepped e).nextMidSecond, pendingSet := none
    valid := t.valid || t.pendingSet.isSome } := by
  obtain ⟨time, state, valid, pendingSet⟩ := t
  cases pendingSet <;> simp [Timebase.move, Timebase.stepped]

theorem move_adjust (t : Timebase) (e c : Int) : t.move e (.adjust c) = { t with
    time := (t.loaded e).correct c, nextCheck := t.checkAfter ((t.loaded e).correct c), pendingSet := none
    valid := t.valid || t.pendingSet.isSome } := by
  obtain ⟨time, state, valid, pendingSet⟩ := t
  cases pendingSet <;> simp [Timebase.move, Timebase.loaded, Timebase.checkAfter]

theorem loaded_offset (t : Timebase) (e : Int) : (t.loaded e).offset = t.time.offset := by
  unfold Timebase.loaded
  split <;> rfl

/-- Handled with no correction, an edge still loads a pending time set (R11, R13, R18). -/
theorem move_adjust_zero {t : Timebase} (e : Int) (range : t.time.offset < 10000000) : t.move e (.adjust 0) = { t with
    time := t.loaded e, nextCheck := t.checkAfter (t.loaded e), pendingSet := none
    valid := t.valid || t.pendingSet.isSome } := by
  rw [move_adjust, correct_zero _ (by rwa [loaded_offset])]

/-! ### The edge as an event -/

theorem exec_ppsEdge {s : State} (running : Running s) : exec .ppsEdge s = .next (settle (ppsEdge s)) :=
  event_running running _

/-- An edge at which launching is not allowed marks the key instants that it passes (R4, R8, log 29). -/
theorem exec_ppsEdge_bars {s : State} {t : Timebase} {x : SiteTime} (running : Running s)
    (edge : s.tb.edge s.params s.allIdle = t) (bars : s.tb.edgeBars t = true) (time : t.time = x) :
    exec .ppsEdge s = .next (timebaseEvent (keysPassed x s) t) := by
  rw [exec_ppsEdge running, ppsEdge, edge, if_pos bars, settle_markPassed, time]

theorem exec_ppsEdge_allows {s : State} {t : Timebase} (running : Running s) (edge : s.tb.edge s.params s.allIdle = t)
    (allows : s.tb.edgeBars t = false) : exec .ppsEdge s = .next (timebaseEvent s t) := by
  rw [exec_ppsEdge running, ppsEdge, edge, if_neg (by simp [allows]), settle_changeTimebase]

/-- A good edge counts, and the fourth in a row locks (R8, R12). -/
theorem goodEdge_eq (t : Timebase) : t.goodEdge = { t with
    good := t.good + 1
    state := if 4 ≤ t.good + 1 then .locked else t.state
    outlier := if 4 ≤ t.good + 1 then 0 else t.outlier } := by
  unfold Timebase.goodEdge
  split <;> rfl

/-- Settles O9: in FREE and ACQUIRE the edge's move bars the key instants it passes; in LOCKED it is slewed, or counted as an
outlier. -/
theorem ppsEdgeInFreeAcquireLocked : Obligations.PpsEdgeInFreeAcquireLocked := by
  refine ⟨fun s running => ?_, fun s running locked => ?_⟩
  · intro off e inside t stepped corrected
    refine ⟨fun free => ?_, fun acquire outside => ?_, fun acquire within => ?_⟩
    · refine exec_ppsEdge_bars running ?_ (by simp [Timebase.edgeBars, free]) rfl
      simp only [Timebase.edge, free, move_step]
      rfl
    · refine exec_ppsEdge_bars running ?_ (by simp [Timebase.edgeBars, acquire]) rfl
      have notIn : ¬ inWindow (edgeError s.tb.time.offset) s.params.window = true := fun h => outside ((inWindow_iff _ _).mp h)
      simp only [Timebase.edge, acquire, Timebase.edgeAcquire, if_neg notIn, move_step]
      simp only [t, acquire]
      rfl
    · refine exec_ppsEdge_bars running ?_ (by simp [Timebase.edgeBars, acquire]) rfl
      have isIn : inWindow (edgeError s.tb.time.offset) s.params.window = true := (inWindow_iff _ _).mpr within
      have moved : (s.tb.loaded (edgeError s.tb.time.offset)).correct (-edgeError s.tb.time.offset) = corrected := by
        simp only [Timebase.loaded, corrected]
        cases s.tb.pendingSet <;> rfl
      simp only [Timebase.edge, acquire, Timebase.edgeAcquire, if_pos isIn, move_adjust, goodEdge_eq, moved]
      rfl
  · intro off e inside c t loaded check range
    refine ⟨fun within => ?_, fun outside few => ?_, fun outside many => ?_⟩
    · refine exec_ppsEdge_allows running ?_ (by simp [Timebase.edgeBars, locked, t])
      have isIn : inWindow (edgeError s.tb.time.offset) s.params.window = true := (inWindow_iff _ _).mpr within
      simp only [Timebase.edge, locked, Timebase.edgeLocked, if_pos isIn, move_adjust, clampSlew_eq]
      simp only [t, locked]
      rfl
    all_goals
      have notIn : ¬ inWindow (edgeError s.tb.time.offset) s.params.window = true := fun h => outside ((inWindow_iff _ _).mp h)
      refine exec_ppsEdge_allows running ?_ (by simp [Timebase.edgeBars, locked, t])
    · simp only [Timebase.edge, locked, Timebase.edgeLocked, if_neg notIn, move_adjust_zero _ range]
      rw [if_neg (by omega)]
      simp only [t, locked]
      rfl
    · simp only [Timebase.edge, locked, Timebase.edgeLocked, if_neg notIn, move_adjust_zero _ range]
      rw [if_pos many]
      rfl

/-- Settles O10: inside the window the edge is slewed and counted; outside it agrees with the one before it or does not, and
the pending step is taken when no channel is keyed. -/
theorem ppsEdgeInHoldover : Obligations.PpsEdgeInHoldover := by
  intro s running holdover range off e w inside agrees idle c t stepped loaded check left
  have within_iff : inWindow (edgeError s.tb.time.offset) s.params.window = true ↔ inside := inWindow_iff _ _
  have agrees_iff : inWindow (edgeError s.tb.time.offset - s.tb.lastError) s.params.window = true ↔ agrees :=
    inWindow_iff _ _
  have idle_iff : s.allIdle = true ↔ idle := allIdle_iff s
  refine ⟨fun within => ?_, fun outside differs => ?_, fun outside same unset => ?_, fun outside same set busy => ?_,
    fun outside same set free => ?_⟩
  · refine exec_ppsEdge_allows running ?_ (by simp [Timebase.edgeBars, holdover]; split <;> simp)
    simp only [Timebase.edge, holdover, Timebase.edgeHoldover, if_pos (within_iff.mpr within), move_adjust, clampSlew_eq,
      goodEdge_eq]
    rfl
  · refine exec_ppsEdge_allows running ?_ (by simp [Timebase.edgeBars, holdover, left, t])
    simp only [Timebase.edge, holdover, Timebase.edgeHoldover, if_neg (mt within_iff.mp outside),
      if_neg (mt agrees_iff.mp differs), move_adjust_zero _ range]
    simp only [left, t, holdover]
    rfl
  · refine exec_ppsEdge_allows running ?_ (by simp [Timebase.edgeBars, holdover, left, t])
    simp only [Timebase.edge, holdover, Timebase.edgeHoldover, if_neg (mt within_iff.mp outside),
      if_pos (agrees_iff.mpr same), unset, move_adjust_zero _ range]
    simp only [left, t, holdover]
    rfl
  · refine exec_ppsEdge_allows running ?_ (by simp [Timebase.edgeBars, holdover, left, t])
    simp only [Timebase.edge, holdover, Timebase.edgeHoldover, if_neg (mt within_iff.mp outside),
      if_pos (agrees_iff.mpr same), set, if_true, if_neg (mt idle_iff.mp busy), move_adjust_zero _ range]
    simp only [left, t, holdover, set]
    rfl
  · refine exec_ppsEdge_bars running ?_ (by simp [Timebase.edgeBars]) rfl
    simp only [Timebase.edge, holdover, Timebase.edgeHoldover, if_neg (mt within_iff.mp outside),
      if_pos (agrees_iff.mpr same), set, if_true, if_pos (idle_iff.mpr free), move_step]
    rfl

end Sys2Proof.Machine
end

section
/-! PROOFS. The mid-second check (R5, R7, R9, R11), and the cuts of a holdover expiry, one channel after another (R15). -/

namespace Sys2Proof.Machine

/-! ### The cuts of a holdover expiry -/

/-- What cuts leave as it is. -/
structure CutFrame (s t : State) : Prop where
  tb : t.tb = s.tb
  params : t.params = s.params
  zones : t.zones = s.zones
  channelMap : t.channelMap = s.channelMap
  framer : t.framer = s.framer
  dir : t.dir = s.dir
  cells : t.pool.cells = s.pool.cells
  resetPending : t.port.resetPending = s.port.resetPending
  pins : t.pins = s.pins

theorem CutFrame.refl (s : State) : CutFrame s s := ⟨rfl, rfl, rfl, rfl, rfl, rfl, rfl, rfl, rfl⟩

theorem CutFrame.trans {s t u : State} (h : CutFrame s t) (k : CutFrame t u) : CutFrame s u :=
  ⟨k.tb.trans h.tb, k.params.trans h.params, k.zones.trans h.zones, k.channelMap.trans h.channelMap,
    k.framer.trans h.framer, k.dir.trans h.dir, k.cells.trans h.cells, k.resetPending.trans h.resetPending,
    k.pins.trans h.pins⟩

theorem cut_frame (n : Chan) (o : LaunchOutcome) (s : State) : CutFrame s (cut n o s) := by
  have rested : CutFrame s (restLines n s) := ⟨rfl, rfl, rfl, rfl, rfl, rfl, rfl, rfl, rfl⟩
  have retired : CutFrame (restLines n s) (retireActive n o (restLines n s)) :=
    retireActive_induction (.refl _) fun _ _ => by constructor <;> simp
  refine rested.trans (retired.trans ?_)
  unfold cut endActive
  constructor <;> simp [enterIdle_eq]

theorem cutTimebase_frame (n : Chan) (s : State) : CutFrame s (cutTimebase n s) := by
  unfold cutTimebase
  split
  · exact cut_frame ..
  · exact .refl s

theorem cutAll_frame (ns : List Chan) (s : State) : CutFrame s (forChans cutTimebase ns s) :=
  forChans_induction cutTimebase (CutFrame s) (fun n t h => h.trans (cutTimebase_frame n t)) ns s (.refl s)

theorem changeTimebase_frame (t : Timebase) (s : State) : CutFrame (s.setTb t) (changeTimebase t s) := by
  constructor <;> simp [changeTimebase]

theorem settle_frame (s : State) : CutFrame s (settle s) := by
  refine ⟨settle_tb s, settle_params s, settle_zones s, settle_channelMap s, settle_framer s, settle_dir s, ?_,
    settle_resetPending s, settle_pins s⟩
  rw [settle_pool]

/-- A channel after the cut of a holdover expiry. -/
def Channel.cutOff (c : Channel) : Channel :=
  if c.seq.state.keyed then { c with
    queue := c.queue.tail
    seq := { c.seq with
      state := .idle, dry := false, sent := 0, lines := 0, strobe := none, muteAfter := false
      portMute := c.seq.portMute || c.seq.muteAfter } }
  else c

theorem cutTimebase_chan_eq (n : Chan) (s : State) (m : Chan) :
    (cutTimebase n s).chan m = if m = n then (s.chan n).cutOff else s.chan m := by
  unfold cutTimebase Channel.cutOff
  by_cases keyed : (s.chan n).seq.state.keyed = true
  · rw [if_pos keyed, if_pos keyed, cut, endActive_chan]
    by_cases h : m = n <;> simp [restLines, h]
  · rw [if_neg keyed, if_neg keyed]
    by_cases h : m = n <;> simp [h]

theorem cutAll_chan (ns : List Chan) (distinct : ns.Nodup) (s : State) (m : Chan) :
    (forChans cutTimebase ns s).chan m = if m ∈ ns then (s.chan m).cutOff else s.chan m := by
  induction ns generalizing s with
  | nil => rfl
  | cons n ns ih =>
    obtain ⟨new, distinct⟩ := List.nodup_cons.mp distinct
    rw [forChans, List.foldl_cons, ← forChans, ih distinct, cutTimebase_chan_eq]
    by_cases h : m = n
    · subst h
      simp [new]
    · simp [h]

/-- The end of a keyed channel's batch at a holdover expiry, as the statement names it. -/
def batchCut (s : State) (u : State) (n : Chan) : State :=
  if (s.chan n).seq.state.keyed then
    match (s.chan n).queue with
    | e :: rest => batchEnded u n e rest .abortedTimebase 0 none
    | [] => u
  else u

/-- The record of that end, where there is one. -/
def cutRecord (s : State) (n : Chan) : List RecordBody :=
  if (s.chan n).seq.state.keyed then
    (s.chan n).queue.head?.toList.map (fun e => e.record n .abortedTimebase (s.chan n).seq.sent)
  else []

/-- In a sound channel the cut ends the batch at the queue's head, whatever other channels have been cut before it. -/
theorem cutTimebase_eq {s u : State} {n : Chan} (sound : ChannelSound (s.chan n)) (same : u.chan n = s.chan n) :
    cutTimebase n u = batchCut s u n := by
  unfold cutTimebase batchCut
  rw [same]
  split
  · next keyed =>
    obtain ⟨a, rest, on⟩ := (channelSound_keyed keyed).mp sound
    rw [on.queue]
    exact cut_batchEnded .abortedTimebase (same ▸ on.queue) on.active
  · rfl

theorem batchCut_records {s u : State} {n : Chan} (same : u.chan n = s.chan n) :
    (batchCut s u n).ring.records = ((cutRecord s n).foldl (fun r b => r.append b u.tb.time) u.ring).records ∧
    (batchCut s u n).ring.nextSeq = ((cutRecord s n).foldl (fun r b => r.append b u.tb.time) u.ring).nextSeq ∧
    (batchCut s u n).counts = (cutRecord s n).foldl (fun c b => c.countOutcome b.outcome) u.counts := by
  unfold batchCut cutRecord
  split
  · cases queue : (s.chan n).queue with
    | nil => exact ⟨rfl, rfl, rfl⟩
    | cons e rest =>
      refine ⟨?_, rfl, rfl⟩
      simp only [batchEnded, same, List.head?_cons, Option.toList_some, List.map_cons, List.map_nil, List.foldl_cons,
        List.foldl_nil, Ring.append_records]
      rfl
  · exact ⟨rfl, rfl, rfl⟩

/-- The records that a ring appends do not depend on its mark. -/
theorem appendAll_congr (bs : List RecordBody) (x : SiteTime) {r r' : Ring} (records : r'.records = r.records)
    (nextSeq : r'.nextSeq = r.nextSeq) :
    (bs.foldl (fun r b => r.append b x) r').records = (bs.foldl (fun r b => r.append b x) r).records ∧
    (bs.foldl (fun r b => r.append b x) r').nextSeq = (bs.foldl (fun r b => r.append b x) r).nextSeq := by
  induction bs generalizing r r' with
  | nil => exact ⟨records, nextSeq⟩
  | cons b bs ih => exact ih (by simp only [Ring.append, records, nextSeq]) (by simp only [Ring.append, nextSeq])

/-- The cuts of sound channels, one after another, with their records and counts (R15). -/
theorem cutAll_eq {s : State} (sound : ChannelsSound s) (ns : List Chan) (distinct : ns.Nodup) (u : State)
    (same : ∀ n ∈ ns, u.chan n = s.chan n) :
    let t := forChans cutTimebase ns u
    let ended := ns.flatMap (cutRecord s)
    t = ns.foldl (batchCut s) u ∧ t.ring.records = (ended.foldl (fun r b => r.append b u.tb.time) u.ring).records ∧
    t.counts = ended.foldl (fun c b => c.countOutcome b.outcome) u.counts := by
  induction ns generalizing u with
  | nil => exact ⟨rfl, rfl, rfl⟩
  | cons n ns ih =>
    obtain ⟨new, distinct⟩ := List.nodup_cons.mp distinct
    have cut : cutTimebase n u = batchCut s u n := cutTimebase_eq (sound n) (same n (by simp))
    obtain ⟨records, nextSeq, counts⟩ := batchCut_records (same n (by simp))
    have others : ∀ m ∈ ns, (cutTimebase n u).chan m = s.chan m := fun m hm => by
      rw [cutTimebase_chan_eq, if_neg (by rintro rfl; exact new hm)]
      exact same m (by simp [hm])
    obtain ⟨all, allRecords, allCounts⟩ := ih distinct (cutTimebase n u) others
    have time : (cutTimebase n u).tb.time = u.tb.time := by rw [(cutTimebase_frame n u).tb]
    rw [time] at allRecords
    rw [cut] at all allRecords allCounts
    refine ⟨?_, ?_, ?_⟩
    · rw [forChans, List.foldl_cons, List.foldl_cons, ← forChans, cut, all]
    · rw [forChans, List.foldl_cons, ← forChans, cut, allRecords, List.flatMap_cons, List.foldl_append]
      exact (appendAll_congr _ _ records nextSeq).1
    · rw [forChans, List.foldl_cons, ← forChans, cut, allCounts, counts, List.flatMap_cons, List.foldl_append]

/-! ### The check as an event -/

theorem exec_midSecondCheck_early {s : State} (running : Running s) (early : 0 < s.tb.nextCheck.diff s.tb.time) :
    exec .midSecondCheck s = .next (settle s) := by
  have run : exec .midSecondCheck s = .next (settle (midSecondCheck s)) := event_running running _
  rw [run, midSecondCheck, if_neg (by rw [due_iff]; omega)]

theorem exec_midSecondCheck_due {s : State} (running : Running s) (due : s.tb.nextCheck.diff s.tb.time ≤ 0) :
    exec .midSecondCheck s = .next (settle (if s.tb.expires s.params then
      forChans cutTimebase allChans (changeTimebase (s.tb.check s.params) s) else changeTimebase (s.tb.check s.params) s)) := by
  have run : exec .midSecondCheck s = .next (settle (midSecondCheck s)) := event_running running _
  rw [run, midSecondCheck, if_pos ((due_iff ..).mpr due)]

theorem exec_midSecondCheck_runs {s : State} {t : Timebase} (running : Running s) (due : s.tb.nextCheck.diff s.tb.time ≤ 0)
    (runs : s.tb.expires s.params = false) (check : s.tb.check s.params = t) :
    exec .midSecondCheck s = .next (timebaseEvent s t) := by
  rw [exec_midSecondCheck_due running due, if_neg (by simp [runs]), check, settle_changeTimebase]

theorem expires_iff (t : Timebase) (p : Params) : t.expires p = true ↔ t.state = .holdover ∧ p.holdover < t.elapsed + 1 := by
  simp [Timebase.expires]

theorem not_expires {t : Timebase} {p : Params} (h : t.state ≠ .holdover ∨ t.elapsed + 1 ≤ p.holdover) :
    t.expires p = false := by
  rw [← Bool.not_eq_true, expires_iff]
  rintro ⟨state, late⟩
  obtain other | early := h
  · exact other state
  · omega

/-- Settles O11: by the Timebase's state and the edge seen; at an expiry the Timebase is FREE before the cuts, and each cut is
the end of one batch. -/
theorem midSecondCheckByState : Obligations.MidSecondCheckByState := by
  intro s running next free
  refine ⟨exec_midSecondCheck_early running, fun due => ⟨fun state => ?_, fun state seen => ?_, fun state unseen => ?_,
    fun state unseen => ?_, fun state early => ?_, fun state late => ?_⟩⟩
  · refine exec_midSecondCheck_runs running due (not_expires (.inl (by simp [state]))) ?_
    simp only [Timebase.check, state]
    simp only [next, state]
  · obtain state | state := state
    all_goals
      refine exec_midSecondCheck_runs running due (not_expires (.inl (by simp [state]))) ?_
      simp only [Timebase.check, state, seen, if_true]
      simp only [next, state]
  · refine exec_midSecondCheck_runs running due (not_expires (.inl (by simp [state]))) ?_
    simp only [Timebase.check, state, unseen]
    rfl
  · refine exec_midSecondCheck_runs running due (not_expires (.inl (by simp [state]))) ?_
    simp only [Timebase.check, state, unseen]
    rfl
  · refine exec_midSecondCheck_runs running due (not_expires (.inr early)) ?_
    simp only [Timebase.check, state, not_expires (.inr early)]
    simp only [next, state]
    rfl
  · have expires : s.tb.expires s.params = true := (expires_iff ..).mpr ⟨state, late⟩
    have check : s.tb.check s.params = { free with elapsed := s.tb.elapsed + 1 } := by
      simp only [Timebase.check, state, expires]
      rfl
    have changed : changeTimebase (s.tb.check s.params) s =
        State.pend { s with tb := { free with elapsed := s.tb.elapsed + 1 } } .timebase := by
      have : timebaseChanged s.tb (s.tb.check s.params) = true := by simp [timebaseChanged, check, free, state]
      rw [changeTimebase, this, check]
      rfl
    have chan (n : Chan) : (changeTimebase (s.tb.check s.params) s).chan n = s.chan n := by simp
    have frame := (changeTimebase_frame (s.tb.check s.params) s).trans
      ((cutAll_frame allChans (changeTimebase (s.tb.check s.params) s)).trans (settle_frame _))
    have chans (n : Chan) : (settle (forChans cutTimebase allChans (changeTimebase (s.tb.check s.params) s))).chan n =
        (s.chan n).cutOff := by
      rw [settle_chan, cutAll_chan allChans (by decide), if_pos (mem_allChans n), chan]
    refine ⟨settle (forChans cutTimebase allChans (changeTimebase (s.tb.check s.params) s)), ?_, ?_, fun n unkeyed => ?_,
      fun n e rest keyed queue => ?_, fun sound => ?_, fun sound => ?_, frame.params,
      frame.zones, frame.channelMap, frame.framer, frame.dir, frame.cells, frame.resetPending, frame.pins⟩
    · rw [exec_midSecondCheck_due running due, if_pos expires]
    · exact frame.tb.trans check
    · rw [chans, Channel.cutOff, if_neg (by simp [unkeyed])]
    · rw [chans, Channel.cutOff, if_pos keyed, queue]
      rfl
    · obtain ⟨-, records, counts⟩ := cutAll_eq sound allChans (by decide) _ fun n _ => chan n
      have time : (changeTimebase (s.tb.check s.params) s).tb.time = s.tb.time := by simp [changeTimebase, check_time]
      rw [settle_records, settle_counts, records, counts, time]
      simp only [changeTimebase, State.pendIf_ring, State.setTb_ring, State.pendIf_counts, State.setTb_counts]
      exact ⟨rfl, rfl⟩
    · obtain ⟨all, -, -⟩ := cutAll_eq sound allChans (by decide) _ fun n _ => chan n
      rw [all, changed]
      rfl

end Sys2Proof.Machine
end

section
/-! PROOFS. A superframe position judged in each state of the framer (R53, R55 to R65, R70, R87). -/

namespace Sys2Proof.Machine

theorem syncPresent_iff (f : Superframe) : syncPresent f = true ↔ f.sync = 0x6B3C := by
  simp [syncPresent, Config.downlinkSync]

/-- A good superframe has the sync word and a good check (R54). -/
theorem good_iff (f : Superframe) : (syncPresent f && checkGood f) = true ↔
    f.sync = 0x6B3C ∧ crc16 (coveredBytes f) = f.check := by
  rw [Bool.and_eq_true, syncPresent_iff, checkGood_iff]

theorem exec_superframeEnd {s : State} (running : Running s) (searched : Nat) (f : Superframe) :
    exec (.superframeEnd searched f) s = .next (settle (superframeEnd searched f s)) := event_running running _

/-- The framer past the position judged in HUNT or CONFIRM (R53, R68). -/
theorem advanceTo_searching {s : State} (position : Nat) (h : s.framer.sync.running = false) : advanceTo position s = { s with
    framer := { s.framer with
      reached := position, expected := position, interval := s.framer.interval + (position - s.framer.reached) } } := by
  simp [advanceTo, State.setFramer, h]

theorem advanceTo_running {s : State} (position : Nat) (h : s.framer.sync.running = true) : advanceTo position s = { s with
    framer := { s.framer with reached := position, expected := position } } := by
  simp [advanceTo, State.setFramer, h]

/-- Settles O12: in HUNT a candidate is accepted or rejected; in CONFIRM a good one counts and a bad one loses the link. -/
theorem superframeInHuntAndConfirm : Obligations.SuperframeInHuntAndConfirm := by
  intro s searched f running good position moved mutes latched
  simp only [exec_superframeEnd running]
  have hunts (hunt : s.framer.sync = .hunt) (present : f.sync = 0x6B3C) :
      superframeEnd searched f s = judgeHunt f { s with framer := moved } := by
    have there : s.framer.expected + searched + 656 = position := by simp only [position, hunt, if_true]; omega
    rw [superframeEnd, hunt]
    dsimp only
    rw [if_pos ((syncPresent_iff f).mpr present), Config.superframeBits, there,
      advanceTo_searching _ (by rw [hunt]; rfl)]
  have confirms (confirm : s.framer.sync = .confirm) :
      superframeEnd searched f s = judgeConfirm f { s with framer := moved } := by
    have there : s.framer.expected + 656 = position := by simp [position, confirm]
    rw [superframeEnd, confirm]
    dsimp only
    rw [Config.superframeBits, there, advanceTo_searching _ (by rw [confirm]; rfl)]
  refine ⟨fun hunt absent => ?_, fun hunt present bad => ?_, fun hunt ok => ?_, fun confirm ok few => ?_,
    fun confirm ok third => ?_, fun confirm bad => ?_⟩
  · rw [superframeEnd, hunt]
    dsimp only
    rw [if_neg (mt (syncPresent_iff f).mp absent)]
  · rw [hunts hunt present, judgeHunt, if_neg (mt (checkGood_iff f).mp bad)]
  · rw [hunts hunt ok.1, judgeHunt, if_pos ((checkGood_iff f).mpr ok.2)]
    rfl
  · rw [confirms confirm, judgeConfirm, if_pos ((good_iff f).mpr ok)]
    dsimp only
    rw [if_neg (by show ¬ 3 ≤ s.framer.confirm + 1; omega)]
    rfl
  · rw [confirms confirm, judgeConfirm, if_pos ((good_iff f).mpr ok)]
    dsimp only
    rw [if_pos (by show 3 ≤ s.framer.confirm + 1; exact third)]
    rfl
  · rw [confirms confirm, judgeConfirm, if_neg (mt (good_iff f).mp bad), enterHunt_eq]
    rfl

/-- In SYNC and FLYWHEEL the position is judged and the uplink follows (R68). -/
theorem superframeEnd_running {s : State} (searched : Nat) (f : Superframe)
    (h : s.framer.sync = .sync ∨ s.framer.sync = .flywheel) :
    superframeEnd searched f s = sendUplink ((if s.framer.sync = .sync then judgeSync f else judgeFlywheel f) { s with
      framer := { s.framer with reached := s.framer.expected + 656, expected := s.framer.expected + 656 } }) := by
  have runs : s.framer.sync.running = true := by obtain h | h := h <;> simp [h, SyncState.running]
  have moved := advanceTo_running (s.framer.expected + 656) runs
  obtain h | h := h
  all_goals
    simp only [superframeEnd, h, Config.superframeBits, moved]
    rfl

/-- Settles O13: a lost position is counted, and the third without a sync word in FLYWHEEL loses the link. -/
theorem superframeLost : Obligations.SuperframeLost := by
  intro s searched f running h position near moved lost mutes latched
  simp only [exec_superframeEnd running, superframeEnd_running searched f h]
  refine ⟨fun present bad => ?_, fun absent sync => ?_, fun absent flywheel few => ?_, fun absent flywheel third => ?_⟩
  · obtain h | h := h
    · rw [h, if_pos rfl, judgeSync, if_pos ((syncPresent_iff f).mpr present), if_neg (mt (checkGood_iff f).mp bad)]
      simp only [losePosition, Bool.or_true]
      rfl
    · rw [h, if_neg (by simp), judgeFlywheel, if_pos ((syncPresent_iff f).mpr present), if_neg (mt (checkGood_iff f).mp bad)]
      simp only [losePosition, Bool.or_true]
      rfl
  · rw [sync, if_pos rfl, judgeSync, if_neg (mt (syncPresent_iff f).mp absent)]
    simp only [losePosition, Bool.or_false]
    rfl
  · rw [flywheel, if_neg (by simp), judgeFlywheel, if_neg (mt (syncPresent_iff f).mp absent)]
    dsimp only
    rw [if_neg (by show ¬ 3 ≤ s.framer.miss + 1; omega)]
    simp only [losePosition, Bool.or_false]
    rfl
  · rw [flywheel, if_neg (by simp), judgeFlywheel, if_neg (mt (syncPresent_iff f).mp absent)]
    dsimp only
    rw [if_pos (by show 3 ≤ s.framer.miss + 1; exact third), enterHunt_eq]
    simp only [losePosition, Bool.or_false]
    rfl

/-- Settles O14: a good superframe is handed on: its word, then its slots in order. -/
theorem superframeProcessed : Obligations.SuperframeProcessed := by
  intro s searched f running h present good position far taken after
  rw [exec_superframeEnd running, superframeEnd_running searched f h]
  have slots (u : State) : takeSlots f.slots u =
      takeSlot f.slots[3] (takeSlot f.slots[2] (takeSlot f.slots[1] (takeSlot f.slots[0] u))) := by
    have list : f.slots.toList = [f.slots[0], f.slots[1], f.slots[2], f.slots[3]] := by
      apply List.ext_getElem
      · simp
      · intro i hi _
        simp only [Vector.length_toList] at hi
        interval_cases i <;> rfl
    rw [takeSlots, list]
    rfl
  obtain h | h := h
  · rw [h, if_pos rfl, judgeSync, if_pos ((syncPresent_iff f).mpr present), if_pos ((checkGood_iff f).mpr good),
      processSuperframe, slots]
    simp only [after, taken, h]
    rfl
  · rw [h, if_neg (by simp), judgeFlywheel, if_pos ((syncPresent_iff f).mpr present), if_pos ((checkGood_iff f).mpr good),
      processSuperframe, slots]
    simp only [after, taken, h]
    rfl

end Sys2Proof.Machine
end

section
/-! PROOFS. The uplink superframe: its bytes and the line's bits (R65 to R68). -/

namespace Sys2Proof.Machine

theorem running_iff (q : SyncState) : q.running = true ↔ q = .sync ∨ q = .flywheel := by
  cases q <;> simp [SyncState.running]

/-- The word IDLE, with the site's address and parameter 0 (R66). -/
theorem mkWord_idle (address : Nat) :
    mkWord address 0x00 0 = (0 : BitVec 6) ++ BitVec.ofNat 10 address ++ (0 : BitVec 16) := by
  apply BitVec.eq_of_toNat_eq
  simp only [mkWord, BitVec.toNat_append]
  simp only [BitVec.ofNat_eq_ofNat, BitVec.toNat_ofNat, Nat.zero_mod, Nat.or_zero, ← Nat.shiftLeft_add]

/-- A flag's weight (11 section 11.7). -/
theorem weight_mul (b : Bool) (w : Nat) : (if b = true then w else 0) = w * b.toNat := by cases b <;> simp

/-- Each channel's condition by its sequencer's state (R67). -/
theorem channelCondition_eq (s : State) (n : Chan) : s.channelCondition n =
    if (s.chan n).seq.state = .disabled then 2
    else if (s.chan n).seq.state ≠ .idle then 1
    else if (s.chan n).seq.fault then 3
    else if (s.chan n).seq.portMute || s.dir.muteMask.getLsbD n.val then 2
    else 0 := by
  unfold State.channelCondition State.muted
  dsimp only
  cases (s.chan n).seq.state <;> simp [SeqState.keyed]

theorem statusFlags_eq (s : State) : s.statusFlags = BitVec.ofNat 8 ((if s.framer.farError then 1 else 0)
    + (if s.tb.valid then 2 else 0) + 4 * (match s.tb.state with
      | .free => 0
      | .acquire => 1
      | .locked => 2
      | .holdover => 3)
    + (if s.pool.free.length < 32 then 16 else 0) + (if s.dir.hold then 32 else 0)) := by
  have low : (if s.pool.free.length < 32 then 16 else 0) = 16 * s.pool.low.toNat := by
    rw [← weight_mul]
    simp [Pool.low]
  have state : s.tb.state.code = (match s.tb.state with
      | .free => 0
      | .acquire => 1
      | .locked => 2
      | .holdover => 3) := by
    cases s.tb.state <;> rfl
  rw [low, weight_mul, weight_mul, weight_mul, ← state, Nat.one_mul]
  rfl

/-- The bytes that the uplink's check covers (R66). -/
theorem uplinkCovered_eq (s : State) : s.uplinkCovered = [s.echo, BitVec.ofNat 8 (s.params.siteAddress / 256),
    BitVec.ofNat 8 s.params.siteAddress, s.statusFlags, s.channelSummary, s.uplinkWord.extractLsb' 24 8,
    s.uplinkWord.extractLsb' 16 8, s.uplinkWord.extractLsb' 8 8, s.uplinkWord.extractLsb' 0 8] := by
  rw [State.uplinkCovered, nat2_eq]
  rfl

theorem lineBit_inside {f : Framer} {u : Uplink} (uplink : f.uplink = some u) (length : u.bytes.length = 13) {i : Nat}
    (hi : i < 104) : f.lineBit (u.start + i) = (u.bytes.getD (i / 8) 0).getMsbD (i % 8) := by
  have short : i / 8 < u.bytes.length := by omega
  unfold Framer.lineBit
  rw [uplink]
  dsimp only
  rw [if_pos (by omega), Nat.add_sub_cancel_left, List.getD_eq_getElem _ _ short, List.getD_eq_getElem _ _ short]

theorem lineBit_beyond {f : Framer} {u : Uplink} (uplink : f.uplink = some u) {i : Nat} (hi : 104 ≤ i) :
    f.lineBit (u.start + i) = true := by
  unfold Framer.lineBit
  rw [uplink]
  dsimp only
  rw [if_neg (by omega)]

/-- Settles O16: the bytes are those of `State.uplinkBytes`, field by field; the line carries them and then rests. -/
theorem uplinkSuperframeSent : Obligations.UplinkSuperframeSent := by
  refine ⟨fun s => ?_, fun s running => ⟨fun runs => ?_, fun searches => ?_⟩⟩
  · intro running echo word status condition summary covered check bytes
    have echo_eq : s.echo = echo := if_congr (running_iff _) rfl rfl
    have word_eq : s.uplinkWord = word := by
      rw [State.uplinkWord, mkWord_idle]
      exact if_congr (running_iff _) rfl rfl
    have summary_eq : s.channelSummary = summary := by
      simp only [State.channelSummary, channelCondition_eq]
      rfl
    have covered_eq : s.uplinkCovered = covered := by
      rw [uplinkCovered_eq, echo_eq, word_eq, summary_eq, statusFlags_eq] <;> rfl
    have bytes_eq : s.uplinkBytes = bytes := by
      rw [State.uplinkBytes, covered_eq]
      rfl
    have sent : sendUplink s =
        { s with framer := { s.framer with uplink := some ⟨bytes, s.framer.reached⟩, farError := false } } := by
      rw [← bytes_eq]
      rfl
    refine ⟨sent, rfl, ?_, fun i hi => ?_, fun i hi => ?_⟩
    · rw [← bytes_eq, uplinkBytes_drop_sync, crc16_append_check]
    · rw [sent]
      exact lineBit_inside (u := ⟨bytes, s.framer.reached⟩) rfl rfl hi
    · rw [sent]
      exact lineBit_beyond (u := ⟨bytes, s.framer.reached⟩) rfl hi
  · have run : exec .uplinkIntervalExpiry s = .next (settle (uplinkInterval s)) := event_running running _
    rw [run, uplinkInterval, if_pos ((running_iff _).mpr runs)]
  · have run : exec .uplinkIntervalExpiry s = .next (settle (uplinkInterval s)) := event_running running _
    have searching : ¬ s.framer.sync.running = true := by
      rw [running_iff]
      obtain h | h := searches <;> simp [h]
    rw [run, uplinkInterval, if_neg searching]
    rfl

end Sys2Proof.Machine
end

section
/-! PROOFS. Directives: the steps of a word item, which words are addressed and defined, the reply word, and what each directive
does (R72 to R86, R88, R144). -/

namespace Sys2Proof.Machine

/-! ### A word item -/

/-- Step 5 of a word item is taken on a verified word (R76). -/
theorem verifies_iff (history : List DirWord) (verified w : DirWord) :
    verifies history verified w = true ↔ history = [w, w, w] ∧ w ≠ verified := by
  simp [verifies]

/-- A notice and a change of the directives' state may be taken in either order. -/
theorem pendIf_setDir (s : State) (b : Bool) (k : NoticeKind) (d : Directives) :
    (s.pendIf b k).setDir d = (s.setDir d).pendIf b k := by
  apply State.ext <;> simp

/-- The state after steps 1 to 3 of a word item (R74, R75, R78). -/
def heard (w : DirWord) (continuous : Bool) (s : State) : State :=
  State.pendIf { s with dir := { s.dir with lastGood := some w, history := historyAfter s.dir.history w continuous } }
    (decide (s.params.mode = .transparentChange ∧ s.dir.lastGood ≠ some w)) .directive

theorem heard_dir (w : DirWord) (continuous : Bool) (s : State) : (heard w continuous s).dir =
    { s.dir with lastGood := some w, history := historyAfter s.dir.history w continuous } := by
  simp [heard]

theorem wordItem_eq (w : DirWord) (continuous : Bool) (s : State) : wordItem w continuous s =
    if historyAfter s.dir.history w continuous = [w, w, w] ∧ w ≠ s.dir.verified then
      actOnVerified w { heard w continuous s with dir := { (heard w continuous s).dir with verified := w } }
    else heard w continuous s := by
  have first : (s.pendIf (decide (s.params.mode = .transparentChange) && decide (s.dir.lastGood ≠ some w)) .directive).setDir
      { s.dir with lastGood := some w, history := historyAfter s.dir.history w continuous } = heard w continuous s := by
    rw [pendIf_setDir, ← Bool.decide_and]
    rfl
  unfold wordItem
  simp only [State.pendIf_dir, first, heard_dir, verifies_iff]
  rfl

/-- Settles O18: the five steps in their order, and the action by mode. -/
theorem wordItemSteps : Obligations.WordItemSteps := by
  intro s w continuous history changed heard' verified
  have mode : (heard w continuous s).params.mode = s.params.mode := by simp [heard]
  refine ⟨fun no => ?_, fun yes change => ?_, fun yes verify => ?_, fun yes auto => ?_⟩
  · rw [wordItem_eq, if_neg no]
    rfl
  all_goals rw [wordItem_eq, if_pos yes, actOnVerified]
  · dsimp only
    rw [mode, change]
    rfl
  · dsimp only
    rw [mode, verify]
    rfl
  · dsimp only
    rw [mode, auto]
    have params (u : State) : (u.pend .directive).params = u.params := by simp
    have here : addressedHere w (State.pend { heard w continuous s with
        dir := { (heard w continuous s).dir with verified := w } } .directive).params = addressedHere w s.params := by
      simp [heard]
    dsimp only
    rw [here]
    refine ⟨fun other => ?_, fun d addressed defined => ?_⟩
    · obtain elsewhere | undefined := other
      · rw [if_neg (by simp [elsewhere])]
        rfl
      · rw [undefined, ite_self]
        rfl
    · rw [if_pos addressed, defined]
      rfl

/-! ### Words by their four bytes -/

theorem append_toNat {n m : Nat} (x : BitVec n) (y : BitVec m) : (x ++ y).toNat = x.toNat * 2 ^ m + y.toNat := by
  rw [BitVec.toNat_append, ← Nat.shiftLeft_add_eq_or_of_lt y.isLt, Nat.shiftLeft_eq]

/-- The word of four bytes, the spare bits and the address's high bits first (11 section 11.6). -/
abbrev wordOf (high low code param : Byte) : DirWord := high ++ low ++ code ++ param

theorem wordOf_toNat (high low code param : Byte) : (wordOf high low code param).toNat =
    ((high.toNat * 256 + low.toNat) * 256 + code.toNat) * 256 + param.toNat := by
  simp only [append_toNat]
  rfl

theorem wordParam_wordOf (high low code param : Byte) : wordParam (wordOf high low code param) = param := by
  apply BitVec.eq_of_toNat_eq
  rw [wordParam, BitVec.extractLsb'_toNat, wordOf_toNat, Nat.shiftRight_eq_div_pow]
  omega

theorem wordCode_wordOf (high low code param : Byte) : wordCode (wordOf high low code param) = code := by
  apply BitVec.eq_of_toNat_eq
  rw [wordCode, BitVec.extractLsb'_toNat, wordOf_toNat, Nat.shiftRight_eq_div_pow]
  omega

theorem wordAddress_wordOf (high low code param : Byte) :
    wordAddress (wordOf high low code param) = 256 * (high.toNat % 4) + low.toNat := by
  rw [wordAddress, BitVec.extractLsb'_toNat, wordOf_toNat, Nat.shiftRight_eq_div_pow]
  omega

theorem wordSpare_wordOf (high low code param : Byte) : wordSpare (wordOf high low code param) = 0 ↔ high.toNat < 4 := by
  rw [← BitVec.toNat_inj, wordSpare, BitVec.extractLsb'_toNat, wordOf_toNat, Nat.shiftRight_eq_div_pow]
  simp only [BitVec.ofNat_eq_ofNat, BitVec.toNat_ofNat, Nat.zero_mod]
  omega

/-- Addresses to 1015 name a site, 1016 to 1022 a group, and 1023 every site (R72). -/
theorem addressedHere_iff (w : DirWord) (p : Params) (range : wordAddress w ≤ 1023) : addressedHere w p = true ↔
    (wordAddress w ≤ 1015 ∧ wordAddress w = p.siteAddress) ∨
    (1016 ≤ wordAddress w ∧ wordAddress w ≤ 1022 ∧ p.groupMask.getLsbD (wordAddress w - 1016) = true) ∨
    wordAddress w = 1023 := by
  unfold addressedHere
  dsimp only
  split
  · rw [beq_iff_eq]
    omega
  · split
    · have group : ¬ wordAddress w = 1023 := by omega
      have low : 1016 ≤ wordAddress w := by omega
      simp [*]
    · simp only [true_iff]
      omega

theorem withZero_isSome (param : Byte) (d : Directive) : (withZero param d).isSome = true ↔ param = 0 := by
  unfold withZero
  by_cases h : param = 0 <;> simp only [h, if_true, if_false, Option.isSome_some, Option.isSome_none, Bool.false_eq_true]

theorem withMask_isSome (param : Byte) (f : BitVec 4 → Directive) : (withMask param f).isSome = true ↔ param.toNat < 16 := by
  unfold withMask maskOk
  split <;> simp_all

/-- The directive of a word with clear spare bits, by its code (R73). -/
theorem directiveOf_wordOf {high : Byte} (clear : high.toNat < 4) (low code param : Byte) :
    directiveOf (wordOf high low code param) =
      if code = 0x00 then withZero param .idle
      else if code = 0x11 then withMask param .mute
      else if code = 0x12 then withMask param .unmute
      else if code = 0x21 then withZero param .holdAdmission
      else if code = 0x22 then withZero param .resumeAdmission
      else if code = 0x31 then withMask param .dry
      else if code = 0x32 then withMask param .live
      else if code = 0x41 then withMask param .flush
      else if code = 0xFF then withZero param .returnToNormal
      else none := by
  rw [directiveOf, if_neg (not_not.mpr ((wordSpare_wordOf ..).mpr clear)), wordCode_wordOf, wordParam_wordOf]

theorem wordDefined_wordOf (high low code param : Byte) : wordDefined (wordOf high low code param) = true ↔ high.toNat < 4 ∧
    ((param = 0 ∧ (code = 0x00 ∨ code = 0x21 ∨ code = 0x22 ∨ code = 0xFF)) ∨
     (param.toNat < 16 ∧ (code = 0x11 ∨ code = 0x12 ∨ code = 0x31 ∨ code = 0x32 ∨ code = 0x41))) := by
  by_cases clear : high.toNat < 4
  · rw [wordDefined, directiveOf_wordOf clear]
    simp only [clear, true_and]
    by_cases known : code ∈ ([0x00, 0x11, 0x12, 0x21, 0x22, 0x31, 0x32, 0x41, 0xFF] : List Byte)
    · simp only [List.mem_cons, List.not_mem_nil, or_false] at known
      rcases known with rfl | rfl | rfl | rfl | rfl | rfl | rfl | rfl | rfl <;>
        simp [withZero_isSome, withMask_isSome]
    · simp only [List.mem_cons, List.not_mem_nil, or_false, not_or] at known
      obtain ⟨c0, c1, c2, c3, c4, c5, c6, c7, c8⟩ := known
      simp only [c0, c1, c2, c3, c4, c5, c6, c7, c8, if_false, or_self, and_false]
      simp
  · have spare : wordSpare (wordOf high low code param) ≠ 0 := mt (wordSpare_wordOf ..).mp clear
    rw [wordDefined, directiveOf, if_pos spare]
    simp [clear]

/-! ### The reply word -/

/-- In AUTO the reply word tells of a directive that is not carried out, echoes a word addressed here, or is IDLE (R86). -/
theorem replyWord_auto {s : State} (auto : s.params.mode = .auto) : s.replyWord =
    if addressedHere s.dir.verified s.params ∧ wordDefined s.dir.verified = false ∧ s.dir.lastGood = some s.dir.verified then
      mkWord s.params.siteAddress 0xE0 (wordCode s.dir.verified)
    else
      match s.dir.lastGood with
      | some w =>
        if addressedHere w s.params then mkWord s.params.siteAddress (wordCode w) (wordParam w)
        else mkWord s.params.siteAddress 0x00 0
      | none => mkWord s.params.siteAddress 0x00 0 := by
  unfold State.replyWord
  rw [auto] <;> rfl

/-- Settles O19: addresses, codes and parameters are the fields of the four bytes, and the reply word goes by mode. -/
theorem directiveWordsAndReply : Obligations.DirectiveWordsAndReply := by
  refine ⟨fun high low code param p => ?_, fun s => ?_⟩
  · intro w address mask
    have address_eq : wordAddress w = address := wordAddress_wordOf ..
    have range : wordAddress w ≤ 1023 := by
      rw [address_eq]
      simp only [address]
      omega
    refine ⟨?_, wordDefined_wordOf .., fun clear masked => ?_⟩
    · rw [addressedHere_iff w p range, address_eq]
    · have directive := directiveOf_wordOf clear low code param
      have withMask_eq (f : BitVec 4 → Directive) : withMask param f = some (f (param.extractLsb' 0 4)) := by
        rw [withMask, if_pos (show maskOk param = true from decide_eq_true masked)]
        rfl
      simp only [withMask_eq] at directive
      refine ⟨?_, ?_, ?_, ?_, ?_, fun zero => ?_⟩
      iterate 5
        rintro rfl
        exact directive
      have withZero_eq (d : Directive) : withZero param d = some d := if_pos zero
      simp only [withZero_eq] at directive
      refine ⟨?_, ?_, ?_, ?_⟩
      all_goals
        rintro rfl
        exact directive
  · intro here v refused
    have refused_iff : (addressedHere v s.params = true ∧ wordDefined v = false ∧ s.dir.lastGood = some v) ↔ refused := by
      simp [refused, wordDefined]
    refine ⟨fun other => ?_, fun auto no => ?_, fun auto yes => ⟨fun w last addressed => ?_, fun last => ?_,
      fun w last elsewhere => ?_⟩⟩
    · unfold State.replyWord
      cases mode : s.params.mode with
      | auto => exact absurd mode other
      | transparentChange | transparentVerified => rfl
    · rw [replyWord_auto auto, if_pos (refused_iff.mpr no)]
      rfl
    · rw [replyWord_auto auto, if_neg (mt refused_iff.mp yes), last]
      dsimp only
      rw [if_pos addressed]
      rfl
    · rw [replyWord_auto auto, if_neg (mt refused_iff.mp yes), last]
      rfl
    · rw [replyWord_auto auto, if_neg (mt refused_iff.mp yes), last]
      dsimp only
      rw [if_neg (by simp [elsewhere])]
      rfl

/-! ### The directives' effects -/

theorem setMuteMask_eq (m : BitVec 4) (s : State) : setMuteMask m s =
    State.pendIf { s with dir := { s.dir with muteMask := m } } (decide (∃ n : Chan, (s.chan n).seq.portMute = false ∧
      s.dir.muteMask.getLsbD n.val ≠ m.getLsbD n.val)) .channel := by
  rw [setMuteMask, noteMuted, mutedDiffers_of_mask (by simp)]
  rfl

/-- Settles O20: a mute NOW is the cut of its state's row, and each directive changes the latched state or runs over the
channels of its mask. -/
theorem directiveEffects : Obligations.DirectiveEffects := by
  refine ⟨fun n s => ?_, fun s m => ?_⟩
  · intro q
    refine ⟨fun rests => ?_, fun h rest queue active => ⟨fun state => ?_, fun state => ?_, fun state => ?_,
      fun state => ?_⟩⟩
    · unfold cutMuted
      obtain state | state := rests <;> rw [state]
    all_goals
      unfold cutMuted
      rw [state]
      exact cut_batchEnded _ queue active
  · intro changes masked
    refine ⟨rfl, rfl, rfl, rfl, rfl, setMuteMask_eq .., ?_, ?_, rfl⟩
    · rw [executeDirective, clearLatched, setMuteMask_eq]
      rfl
    · rw [executeDirective, setMuteMask_eq]
      rfl

end Sys2Proof.Machine
end

section
/-! PROOFS. What a slot does, what the writing of a segment does, and the removal of an entry (R62, R93 to R100, R114). -/

namespace Sys2Proof.Machine

/-! ### The symbols of a segment -/

theorem symbolsOf_getElem? (b : Byte) {j : Nat} (hj : j < 4) : (symbolsOf b)[j]? = some (b.extractLsb' (6 - 2 * j) 2) := by
  interval_cases j <;> rfl

/-- Four symbols a byte, the first in the highest bits (11 section 11.5). -/
theorem symbols_getElem? (bytes : List Byte) {j : Nat} (hj : j < 4 * bytes.length) :
    (bytes.flatMap symbolsOf)[j]? = some ((bytes.getD (j / 4) 0).extractLsb' (6 - 2 * (j % 4)) 2) := by
  induction bytes generalizing j with
  | nil => simp at hj
  | cons b bytes ih =>
    have length : (symbolsOf b).length = 4 := rfl
    rw [List.flatMap_cons, List.getElem?_append, length]
    split
    · next first =>
      have byte : j / 4 = 0 := by omega
      have place : j % 4 = j := by omega
      rw [symbolsOf_getElem? b first, byte, place]
      rfl
    · next later =>
      have byte : j / 4 = (j - 4) / 4 + 1 := by omega
      have place : j % 4 = (j - 4) % 4 := by omega
      rw [ih (by rw [List.length_cons] at hj; omega), byte, place]
      rfl

theorem symbols_length (bytes : List Byte) : (bytes.flatMap symbolsOf).length = 4 * bytes.length := by
  have four (b : Byte) : (symbolsOf b).length = 4 := rfl
  simp [List.length_flatMap, four, Nat.mul_comm]

/-- Symbol 64 i of a batch lies at the start of a quarter of its block (R96). -/
theorem symbolAddress_segment (chain : List Nat) (i : Nat) :
    symbolAddress chain (64 * i) = 256 * chain.getD (i / 4) 0 + 64 * (i % 4) := by
  have block : 64 * i / 256 = i / 4 := by omega
  have place : 64 * i % 256 = 64 * (i % 4) := by omega
  rw [symbolAddress, block, place]

/-- The symbols of a segment as the pool holds them once they are written. -/
def segmentCells (c : Context) (e : Entry) (bytes : List Byte) (cells : List (Nat × Sym)) : List (Nat × Sym) :=
  cellsWriteAll (symbolAddress e.chain (64 * c.next))
    ((bytes.flatMap symbolsOf).take (segmentCount e.n c.expected c.next)) cells

theorem segmentCount_range {n next : Nat} (_below : next < segmentsFor n) :
    1 ≤ segmentCount n (segmentsFor n) next ∧ segmentCount n (segmentsFor n) next ≤ 64 := by
  unfold segmentCount
  unfold segmentsFor at *
  split <;> omega

theorem segmentSymbols_length {count : Nat} {bytes : List Byte} (length : bytes.length = 16) (bound : count ≤ 64) :
    ((bytes.flatMap symbolsOf).take count).length = count := by
  rw [List.length_take, symbols_length, length]
  omega

theorem segmentCells_inside {c : Context} {e : Entry} {bytes : List Byte} {cells : List (Nat × Sym)}
    (canonical : cellsWfFrom 0 cells = true) (expected : c.expected = segmentsFor e.n) (below : c.next < c.expected)
    (length : bytes.length = 16) {j : Nat} (hj : j < segmentCount e.n c.expected c.next) :
    cellsRead (symbolAddress e.chain (64 * c.next) + j) (segmentCells c e bytes cells) =
      (bytes.getD (j / 4) 0).extractLsb' (6 - 2 * (j % 4)) 2 := by
  obtain ⟨-, high⟩ := segmentCount_range (expected ▸ below)
  rw [← expected] at high
  have count := segmentSymbols_length length high
  rw [segmentCells, cellsRead_cellsWriteAll_inside _ _ _ _ canonical (by rwa [count])]
  have symbol := symbols_getElem? bytes (j := j) (by omega)
  rw [← Option.some_inj, ← symbol, ← List.getElem?_eq_getElem, List.getElem?_take_of_lt hj]

theorem segmentCells_outside {c : Context} {e : Entry} {bytes : List Byte} {cells : List (Nat × Sym)}
    (expected : c.expected = segmentsFor e.n) (below : c.next < c.expected) (length : bytes.length = 16) {a : Nat}
    (outside : a < symbolAddress e.chain (64 * c.next) ∨
      symbolAddress e.chain (64 * c.next) + segmentCount e.n c.expected c.next ≤ a) :
    cellsRead a (segmentCells c e bytes cells) = cellsRead a cells := by
  obtain ⟨-, high⟩ := segmentCount_range (expected ▸ below)
  rw [← expected] at high
  rw [segmentCells, cellsRead_cellsWriteAll_other]
  rwa [segmentSymbols_length length high]

/-- The writing of a segment in one update (R96, R97). -/
theorem writeSegment_eq (k : Stream) (c : Context) (e : Entry) (bytes : List Byte) (s : State) :
    writeSegment k c e bytes s = { s with
      channels := s.channels.set c.chan { s.chan c.chan with
        queue := (s.chan c.chan).queue.map (fun y => if y = e then segmentWritten c e else y) }
      contexts := s.contexts.set k (if c.next + 1 = c.expected then none else some { c with
        next := c.next + 1, received := c.received + segmentCount e.n c.expected c.next })
      pool := ⟨s.pool.free, segmentCells c e bytes s.pool.cells⟩ } := by
  unfold writeSegment
  simp only [decide_eq_true_eq]
  rfl

/-! ### Slots -/

theorem slotItem_nothing {x : Slot} (h : (x[0].extractLsb' 4 4 ≠ 1 ∧ x[0].extractLsb' 4 4 ≠ 2) ∨
    8 ≤ (x[0].extractLsb' 0 4).toNat) : slotItem x = .nothing := by
  unfold slotItem
  dsimp only
  obtain ⟨one, two⟩ | high := h
  · rw [if_neg one, if_neg two, ite_self]
  · rw [if_pos (by omega)]

theorem slotItem_data {x : Slot} {k : Stream} (kind : x[0].extractLsb' 4 4 = 2) (stream : (x[0].extractLsb' 0 4).toNat = k.val)
    (range : k.val < 8) : slotItem x = .data k x[1].toNat (x.toList.drop 2) := by
  unfold slotItem
  dsimp only
  rw [if_neg (by omega), kind, if_neg (by decide), if_pos rfl, stream, Fin.ofNat_val_eq_self]

theorem slotItem_header {x : Slot} {k : Stream} (kind : x[0].extractLsb' 4 4 = 1)
    (stream : (x[0].extractLsb' 0 4).toNat = k.val) (range : k.val < 8) : slotItem x = .header k (headerOf x) := by
  unfold slotItem
  dsimp only
  rw [if_neg (by omega), kind, if_pos rfl, stream, Fin.ofNat_val_eq_self]

/-- A data segment on a FREE context, below, above and at the expected index (R97 to R100). -/
theorem dataSegment_orphan {k : Stream} {s : State} (free : s.context k = none) (i : Nat) (bytes : List Byte) :
    dataSegment k i bytes s = (.orphan, { s with counts := { s.counts with orphans := countInc s.counts.orphans } }) := by
  rw [dataSegment, free]

theorem dataSegment_below {k : Stream} {s : State} {c : Context} (opened : s.context k = some c) {i : Nat} (below : i < c.next)
    (bytes : List Byte) : dataSegment k i bytes s = (.duplicate, s) := by
  rw [dataSegment, opened]
  dsimp only
  rw [if_pos below]

theorem dataSegment_above {k : Stream} {s : State} {c : Context} (opened : s.context k = some c) {i : Nat} (above : c.next < i)
    (bytes : List Byte) : dataSegment k i bytes s = (.gap, endAssembly k c .gap s) := by
  rw [dataSegment, opened]
  dsimp only
  rw [if_neg (by omega), if_pos above]

theorem dataSegment_expected {k : Stream} {s : State} {c : Context} {e : Entry} (opened : s.context k = some c)
    (entry : contextEntry c s = some e) (bytes : List Byte) : dataSegment k c.next bytes s =
      (if c.next + 1 = c.expected then .completed else .written, writeSegment k c e bytes s) := by
  rw [dataSegment, opened]
  dsimp only
  rw [if_neg (by omega), if_neg (by omega), entry]

/-- Settles O15: what a slot hands on is judged against its stream's context; the expected segment's symbols lie where R96
puts them. -/
theorem slotOutcomes : Obligations.SlotOutcomes := by
  refine ⟨fun s k c e o entry source => endAssembly_of_entry o entry source,
    fun s k c e bytes canonical expected below length => ?_, fun s x => ?_⟩
  · intro last count base e'
    have base_eq : symbolAddress e.chain (64 * c.next) = base := symbolAddress_segment ..
    obtain ⟨low, high⟩ := segmentCount_range (n := e.n) (expected ▸ below)
    have count_eq : segmentCount e.n c.expected c.next = count := rfl
    rw [show segmentsFor e.n = c.expected from expected.symm, count_eq] at low high
    refine ⟨low, high, segmentCells c e bytes s.pool.cells, writeSegment_eq .., fun j hj => ?_, fun a ha => ?_⟩
    · rw [← base_eq]
      exact segmentCells_inside canonical expected below length hj
    · refine segmentCells_outside expected below length ?_
      rwa [base_eq]
  · intro kind stream
    refine ⟨fun other => ?_, fun k isData isStream range => ⟨fun free => ?_, fun c opened early => ?_,
      fun c e opened late entry source => ?_, fun c e opened index entry => ?_⟩, fun k isHeader isStream range => ?_⟩
    · rw [takeSlot, slotItem_nothing other]
    · rw [takeSlot, slotItem_data isData isStream range]
      dsimp only
      rw [dataSegment_orphan free]
      rfl
    · rw [takeSlot, slotItem_data isData isStream range]
      dsimp only
      rw [dataSegment_below opened early]
    · rw [takeSlot, slotItem_data isData isStream range]
      dsimp only
      rw [dataSegment_above opened late, endAssembly_of_entry .gap entry source]
    · rw [takeSlot, slotItem_data isData isStream range]
      dsimp only
      rw [index, dataSegment_expected opened entry]
    · intro h
      refine ⟨fun free => ?_, fun c opened => ?_⟩
      · rw [takeSlot, slotItem_header isHeader isStream range]
        dsimp only
        rw [headerSegment, free]
        rfl
      · rw [takeSlot, slotItem_header isHeader isStream range]
        dsimp only
        rw [headerSegment, opened]
        rfl

/-! ### Records and removals -/

theorem State.writeRecord_counts_eq (s : State) (b : RecordBody) : (s.writeRecord b).counts = { s.counts with
    outcomes := s.counts.outcomes.set b.outcome.code
      (if s.counts.outcomes[b.outcome.code] < 65535 then s.counts.outcomes[b.outcome.code] + 1
        else s.counts.outcomes[b.outcome.code]) } := by
  rw [State.writeRecord_counts]
  rfl

/-- Settles O32: a record's three parts, and with a removal the queue, the free list and the context of its entry. -/
theorem removalOfAnEntry : Obligations.RemovalOfAnEntry := by
  refine ⟨fun s b => ?_, fun s n e o sent => ?_⟩
  · intro reported mark count
    apply State.ext
    case ring => exact State.writeRecord_ring_eq s b
    case counts => exact State.writeRecord_counts_eq s b
    case port => exact State.writeRecord_port_eq s b
    all_goals simp
  · intro reported record mark count
    apply State.ext
    case ring => rw [retire_ring]; exact State.writeRecord_ring_eq s (e.record n o sent)
    case counts => rw [retire_counts]; rfl
    case port =>
      have port : (retire n e o sent s).port = (s.writeRecord (e.record n o sent)).port := by
        rw [retire_port, State.writeRecord_port]
        rfl
      rw [port]
      exact State.writeRecord_port_eq s (e.record n o sent)
    case contexts =>
      simp only [retire, State.closeContext]
      split <;> simp
    all_goals simp [retire]

end Sys2Proof.Machine
end

section
/-! PROOFS. The sequencers' instants, the exciter fault and the power warning (R132 to R142, R146 to R149). -/

namespace Sys2Proof.Machine

/-! ### Instants -/

theorem instantDue_iff {s : State} {n : Chan} {x : SiteTime} (next : (s.chan n).nextInstant = some x) :
    s.instantDue n = true ↔ x.diff s.tb.time ≤ 0 := by
  rw [State.instantDue, next, due_iff]

theorem not_instantDue {s : State} {n : Chan} {x : SiteTime} (next : (s.chan n).nextInstant = some x)
    (early : 0 < x.diff s.tb.time) : ¬ s.instantDue n = true := by
  rw [instantDue_iff next]
  omega

/-- The instant that a sequencer waits for, by its state and its queue (R133, R136, R138, R139, R142, log 17). -/
theorem nextInstant_cons {c : Channel} {h : Entry} {rest : List Entry} (queue : c.queue = h :: rest) : c.nextInstant =
    match c.seq.state with
    | .idle => some h.tk
    | .keying => some h.t
    | .sending => some (if c.seq.sent < h.n then h.symbolAt c.seq.sent else h.tailStart)
    | .tail => some h.tend
    | .hold => rest.head?.map (fun e => e.tk)
    | .disabled => none := by
  rw [Channel.nextInstant, queue]
  cases state : c.seq.state with
  | hold => cases rest <;> rfl
  | _ => rfl

/-! ### The judgement at a key instant (R133, R142) -/

theorem muted_iff (s : State) (n : Chan) :
    s.muted n = true ↔ (s.chan n).seq.portMute = true ∨ s.dir.muteMask.getLsbD n.val = true := by
  rw [State.muted, Bool.or_eq_true]

/-- What is done by the judgement is done by the first condition that applies, in the order of R133. -/
theorem judged_by_condition {α : Type} {run keyed : α} {discard : LaunchOutcome → α} {n : Chan} {e : Entry} {s : State}
    (judged : run = match judgeEntry n e s with
      | none => keyed
      | some o => discard o) :
    let muted : Prop := (s.chan n).seq.portMute = true ∨ s.dir.muteMask.getLsbD n.val = true
    let allowed : Prop := ((s.tb.state = .locked ∨ s.tb.state = .holdover) ∧ s.tb.valid = true) ∧ e.passed = false
    (e.state ≠ .ready → run = discard .lateData) ∧
    (e.state = .ready →
      (muted → run = discard .muted) ∧
      (¬muted → (s.chan n).seq.fault = true → run = discard .fault) ∧
      (¬muted → (s.chan n).seq.fault = false →
        (¬allowed → run = discard .timebase) ∧
        (allowed → s.pins.pwrwarn = true → run = discard .power) ∧
        (allowed → s.pins.pwrwarn = false → run = keyed))) := by
  intro muted allowed
  have barred : (s.tb.launchAllowed = false ∨ e.passed = true) ↔ ¬ allowed := by
    have launch := launchAllowed_iff s.tb
    simp only [allowed, ← launch, not_and_or, Bool.not_eq_true, Bool.not_eq_false]
  rw [judged]
  unfold judgeEntry
  refine ⟨fun unready => by rw [if_pos unready], fun ready => ?_⟩
  rw [if_neg (not_not.mpr ready)]
  refine ⟨fun yes => by rw [if_pos ((muted_iff s n).mpr yes)], fun no fault => ?_, fun no sound => ?_⟩
  · rw [if_neg (mt (muted_iff s n).mp no), if_pos fault]
  · rw [if_neg (mt (muted_iff s n).mp no), if_neg (by simp [sound])]
    refine ⟨fun no => by rw [if_pos (barred.mpr no)], fun yes warned => ?_, fun yes clear => ?_⟩
    · rw [if_neg (fun h => barred.mp h yes), if_pos warned]
    · rw [if_neg (fun h => barred.mp h yes), if_neg (by simp [clear])]

/-! ### The key instants -/

/-- Settles O43: in IDLE the head's key instant is the one awaited, and the judgement decides. -/
theorem keyInstantKeysOrDiscards : Obligations.KeyInstantKeysOrDiscards := by
  intro s n running c q muted run
  have run_eq : run = .next (settle (keyInstant n s)) := event_running running _
  refine ⟨fun other => ?_, fun e rest idle queue => ?_⟩
  · rw [run_eq]
    unfold keyInstant
    split
    · next e rest state queue => exact absurd other (by simp [q, c, state, queue])
    · rfl
  · intro allowed discard
    have act : keyInstant n s = if s.instantDue n then
        (match judgeEntry n e s with
          | none => keyHead n (s.dryAtKeying n) s
          | some o => retire n e o 0 s) else s := by
      unfold keyInstant
      rw [idle, queue] <;> rfl
    have next : (s.chan n).nextInstant = some e.tk := by rw [nextInstant_cons queue, idle]
    refine ⟨fun early => ?_, fun due => ?_⟩
    · rw [run_eq, act, if_neg (not_instantDue next early)]
    · refine judged_by_condition (discard := discard) ?_
      rw [run_eq, act, if_pos ((instantDue_iff next).mpr due)]
      cases judgeEntry n e s with
      | some o => rfl
      | none =>
        dsimp only
        rw [keyHead, queue]
        rfl

/-- Settles O44: in HOLD the awaited key instant is that of the entry behind the held batch, whose record comes first. -/
theorem holdKeyInstantTakesUp : Obligations.HoldKeyInstantTakesUp := by
  intro s n running c q byHub muted run
  have run_eq : run = .next (settle (holdKeyInstant n s)) := event_running running _
  refine ⟨fun other => ?_, fun h e rest held queue => ?_⟩
  · rw [run_eq]
    unfold holdKeyInstant
    split
    · next a b rest state queue => exact absurd other (by simp [q, c, state, queue])
    · rfl
  · intro allowed launched discard
    have retired : retireActive n (s.chan n).seq.launchOutcome s = launched := retireActive_eq queue _
    have launched_chan : launched.chan n = { s.chan n with queue := e :: rest } := by
      have behind : (s.chan n).queue.erase h = e :: rest := by
        rw [show (s.chan n).queue = h :: e :: rest from queue, List.erase_cons_head]
      simp only [launched, retire_chan, if_true, behind]
    have act : holdKeyInstant n s = if s.instantDue n then
        (match judgeEntry n e s with
          | none => keyHead n (s.chan n).seq.dry launched
          | some o => enterIdle n (retire n e o 0 launched)) else s := by
      unfold holdKeyInstant
      rw [held, queue]
      dsimp only
      rw [retired, launched_chan] <;> rfl
    have next : (s.chan n).nextInstant = some e.tk := by
      rw [nextInstant_cons queue, held]
      rfl
    refine ⟨fun early => ?_, fun due => ?_⟩
    · rw [run_eq, act, if_neg (not_instantDue next early)]
    · refine judged_by_condition (discard := discard) ?_
      rw [run_eq, act, if_pos ((instantDue_iff next).mpr due)]
      cases judgeEntry n e s with
      | some o =>
        have gone : (retire n e o 0 launched).chan n = { s.chan n with queue := rest } := by
          rw [retire_chan, if_pos rfl, launched_chan, List.erase_cons_head]
        have dir : (retire n e o 0 launched).dir = s.dir := by simp [launched]
        dsimp only
        rw [enterIdle_eq, State.setSeq, gone, dir]
      | none =>
        dsimp only
        rw [keyHead, launched_chan]

/-! ### Symbols and the tail start -/

theorem nextInstant_none {c : Channel} (h : c.queue = [] ∨ c.seq.state = .disabled) : c.nextInstant = none := by
  obtain queue | state := h
  · rw [Channel.nextInstant, queue]
    cases c.seq.state <;> rfl
  · rw [Channel.nextInstant, state]

theorem awaitsSymbol_cons {c : Channel} {h : Entry} {rest : List Entry} (queue : c.queue = h :: rest) :
    c.awaitsSymbol = true ↔ c.seq.state = .keying ∨ c.seq.state = .sending ∧ c.seq.sent < h.n := by
  rw [awaitsSymbol_iff]
  constructor
  · rintro ⟨a, r, queue', waits⟩
    obtain ⟨rfl, -⟩ := List.cons.inj (queue.symm.trans queue')
    exact waits
  · exact fun waits => ⟨h, rest, queue, waits⟩

theorem awaitsTail_cons {c : Channel} {h : Entry} {rest : List Entry} (queue : c.queue = h :: rest) :
    c.awaitsTail = true ↔ c.seq.state = .sending ∧ h.n ≤ c.seq.sent := by
  rw [awaitsTail_iff]
  constructor
  · rintro ⟨a, r, queue', waits⟩
    obtain ⟨rfl, -⟩ := List.cons.inj (queue.symm.trans queue')
    exact waits
  · exact fun waits => ⟨h, rest, queue, waits⟩

theorem presentSymbol_eq {n : Chan} {s : State} {h : Entry} {rest : List Entry} (queue : (s.chan n).queue = h :: rest) :
    presentSymbol n s = s.setSeq n { (s.chan n).seq with
      state := .sending, sent := (s.chan n).seq.sent + 1
      lines := if (s.chan n).seq.dry then (s.chan n).seq.lines
        else cellsRead (symbolAddress h.chain (s.chan n).seq.sent) s.pool.cells
      strobe := if (s.chan n).seq.dry then (s.chan n).seq.strobe else some 0 } := by
  have symbol : s.nextSymbol n = cellsRead (symbolAddress h.chain (s.chan n).seq.sent) s.pool.cells := by
    rw [State.nextSymbol, queue]
  rw [presentSymbol]
  dsimp only
  rw [symbol]
  cases dry : (s.chan n).seq.dry <;> simp [dry]

/-- Settles O45: the key line, the awaited instants, and what a symbol instant and the tail start do when theirs is due. -/
theorem symbolsAndTailStart : Obligations.SymbolsAndTailStart := by
  refine ⟨fun q => ?_, fun c => ⟨nextInstant_none, fun h rest queue => ?_⟩, fun s n h rest running queue => ?_⟩
  · rw [Sequencer.key]
    cases q.state <;> simp [SeqState.keyed]
  · intro period
    have next := nextInstant_cons queue
    refine ⟨fun state => ?_, fun state => ?_, fun state more => ?_, fun state done => ?_, fun state => ?_, fun state => ?_⟩
    all_goals rw [next, state]
    · dsimp only
      rw [if_pos more]
      rfl
    · dsimp only
      rw [if_neg (by omega)]
      rfl
  · intro q period waits at' symbol tail
    have awaits : (s.chan n).awaitsSymbol = true ↔ waits := awaitsSymbol_cons queue
    have awaitsEnd : (s.chan n).awaitsTail = true ↔ q.state = .sending ∧ h.n ≤ q.sent := awaitsTail_cons queue
    have next := nextInstant_cons queue
    have symbolNext (w : waits) : (s.chan n).nextInstant = some at' := by
      obtain state | ⟨state, more⟩ := w
      · rw [next, show (s.chan n).seq.state = .keying from state]
        simp only [at', state, if_true]
      · rw [next, show (s.chan n).seq.state = .sending from state]
        simp only [at', state]
        rw [if_pos more]
        rfl
    have tailNext (state : q.state = .sending) (done : h.n ≤ q.sent) : (s.chan n).nextInstant = some tail := by
      rw [next, show (s.chan n).seq.state = .sending from state]
      dsimp only
      rw [if_neg (show ¬ (s.chan n).seq.sent < h.n from Nat.not_lt.mpr done)]
      rfl
    have symbolRun : exec (.symbolInstant n) s = .next (settle (symbolInstant n s)) := event_running running _
    have tailRun : exec (.tailStart n) s = .next (settle (tailStart n s)) := event_running running _
    rw [symbolRun, tailRun, symbolInstant, tailStart]
    simp only [Bool.and_eq_true, awaits, awaitsEnd]
    refine ⟨fun w due => ?_, fun still => ?_, fun state done due => ?_, fun still => ?_⟩
    · rw [if_pos ⟨w, (instantDue_iff (symbolNext w)).mpr due⟩, presentSymbol_eq queue]
      rfl
    · rw [if_neg]
      rintro ⟨w, due⟩
      obtain no | early := still
      · exact no w
      · exact not_instantDue (symbolNext w) early due
    · rw [if_pos ⟨⟨state, done⟩, (instantDue_iff (tailNext state done)).mpr due⟩]
    · rw [if_neg]
      rintro ⟨⟨state, done⟩, due⟩
      obtain other | more | early := still
      · exact other state
      · omega
      · exact not_instantDue (tailNext state done) early due

/-! ### The end of airtime -/

theorem holdsOn_cons {c : Channel} {h : Entry} {rest : List Entry} (queue : c.queue = h :: rest) :
    c.holdsOn = true ↔ ∃ b ∈ rest.head?, b.tk.diff h.tend ≤ c.settings.holdGap := by
  rw [Channel.holdsOn, queue]
  cases rest with
  | nil => simp
  | cons b rest => simp

/-- Settles O46: the key is held under the five conditions of R139, and else the batch ends as launched. -/
theorem endOfAirtimeHoldsOrReleases : Obligations.EndOfAirtimeHoldsOrReleases := by
  intro s n h rest running queue active c q holds run
  have run_eq : run = .next (settle (endOfAirtime n s)) := event_running running _
  have holds_iff : s.holds n = true ↔ holds := by
    simp only [State.holds, Bool.and_eq_true, Bool.not_eq_true', holdsOn_cons queue, and_assoc]
    rfl
  have next (state : q.state = .tail) : (s.chan n).nextInstant = some h.tend := by
    rw [nextInstant_cons queue, show (s.chan n).seq.state = .tail from state]
  rw [run_eq, endOfAirtime]
  refine ⟨fun other => ?_, fun state due yes => ?_, fun state due no => ?_⟩
  · rw [if_neg]
    rintro ⟨state, due⟩
    obtain wrong | early := other
    · exact wrong state
    · exact not_instantDue (next state) early due
  · rw [if_pos ⟨state, (instantDue_iff (next state)).mpr due⟩, if_pos (holds_iff.mpr yes)]
  · rw [if_pos ⟨state, (instantDue_iff (next state)).mpr due⟩, if_neg (mt holds_iff.mp no)]
    exact ⟨_, rfl, endActive_batchEnded _ queue active⟩

/-! ### The exciter fault and the power warning -/

theorem pinEvent_running {s : State} (running : Running s) (level act : State → State) :
    pinEvent level act s = .next (settle (act s)) := by
  rw [pinEvent, if_neg (by simp [running])]

/-- Settles O47: a level that stands is no event; an asserting one cuts by the sequencer's state. -/
theorem faultAndPowerWarning : Obligations.FaultAndPowerWarning := by
  refine ⟨fun s n running => ?_, fun s running => ?_, fun n s => ⟨fun unkeyed unheld => ?_, fun h rest keyed queue active => ?_⟩⟩
  · intro q asserted
    have assertRun : exec (.exciterFaultAssert n) s = .next (settle (faultAssert n s)) := pinEvent_running running ..
    have clearRun : exec (.exciterFaultClear n) s = .next (settle (faultClear n s)) := pinEvent_running running ..
    have seq : (asserted.chan n).seq = { q with fault := true } := by simp [asserted]
    have queues : (asserted.chan n).queue = (s.chan n).queue := by simp [asserted]
    have asserts (clear : q.fault = false) : faultAssert n s = cutFault n asserted := by
      rw [faultAssert, if_neg (by simpa [q] using clear)]
      rfl
    rw [assertRun, clearRun]
    refine ⟨fun stands => ?_, fun clear => ?_, fun stands => ?_, fun clear state => ?_, fun h rest clear state queue active => ?_⟩
    · rw [faultAssert, if_pos stands]
    · rw [faultClear, if_neg (by simpa [q] using clear)]
    · rw [faultClear, if_pos stands]
      rfl
    · rw [asserts clear, cutFault, seq]
      obtain state | state | state := state <;> rw [state]
    · rw [asserts clear, cutFault, seq]
      refine ⟨_, rfl, ?_⟩
      obtain state | state | state := state
      all_goals
        rw [state]
        exact cut_batchEnded .abortedFault (queues.trans queue) active
  · have assertRun : exec .pwrwarnAssert s = .next (settle (pwrwarnAssert s)) := pinEvent_running running ..
    have releaseRun : exec .pwrwarnRelease s = .next (settle (pwrwarnRelease s)) := pinEvent_running running ..
    rw [assertRun, releaseRun, pwrwarnAssert, pwrwarnRelease]
    refine ⟨fun stands => ?_, fun clear => ?_, fun stands => ?_, fun clear => ?_⟩
    · rw [if_pos stands]
    · rw [if_neg (by simp [clear])]
    · rw [if_pos stands]
      rfl
    · rw [if_neg (by simp [clear])]
      rfl
  · unfold cutPower
    cases state : (s.chan n).seq.state with
    | keying => exact absurd state unkeyed
    | hold => exact absurd state unheld
    | _ => rfl
  · unfold cutPower
    obtain state | state := keyed
    all_goals
      rw [state]
      exact cut_batchEnded .power queue active

end Sys2Proof.Machine
end

section
/-! PROOFS. The airtime interval: Tk, T, the symbol instants, the tail start and Tend as instants later than Tk (R41 to R44). -/

namespace Sys2Proof.Machine

/-- Later and later again (R43). -/
theorem later_later (x : SiteTime) (a b : Nat) : (x.later a).later b = x.later (a + b) := by
  have carries : (x.offset + (a + b)) / 10000000 =
      (x.offset + a) / 10000000 + ((x.offset + a) % 10000000 + b) / 10000000 := by omega
  have offset : ((x.offset + a) % 10000000 + b) % 10000000 = (x.offset + (a + b)) % 10000000 := by omega
  simp only [SiteTime.later, offset, carries, BitVec.ofNat_add, BitVec.add_assoc]

theorem later_zero {x : SiteTime} (range : x.offset < 10000000) : x.later 0 = x := by
  simp [SiteTime.later, Nat.div_eq_of_lt range, Nat.mod_eq_of_lt range]

/-- Going back by at most one second and as much later is where it began (R41). -/
theorem correct_neg_later {x : SiteTime} {k : Nat} (range : x.offset < 10000000) (bound : k ≤ 10000000) :
    (x.correct (-(k : Int))).later k = x := by
  by_cases hk : k ≤ x.offset
  · have sum : x.offset - k + k = x.offset := by omega
    rw [correct_neg_of_le range hk]
    simp [SiteTime.later, sum, Nat.div_eq_of_lt range, Nat.mod_eq_of_lt range]
  · have sum : x.offset + 10000000 - k + k = x.offset + 10000000 := by omega
    rw [correct_neg_of_lt (by omega) bound]
    simp [SiteTime.later, sum, Nat.add_div_right, Nat.div_eq_of_lt range, Nat.mod_eq_of_lt range]

/-- The difference of two instants at known distances from a third, far less than 2^31 seconds (R45). -/
theorem later_diff_later (x : SiteTime) {a b : Nat} (_range : x.offset < 10000000) (ha : a ≤ 100000000) (hb : b ≤ 100000000) :
    (x.later a).diff (x.later b) = (a : Int) - b := by
  have seconds : ((x.later a).second - (x.later b).second).toInt =
      (((x.offset + a) / 10000000 : Nat) : Int) - ((x.offset + b) / 10000000 : Nat) := by
    have same : (x.later a).second - (x.later b).second =
        BitVec.ofNat 32 ((x.offset + a) / 10000000) - BitVec.ofNat 32 ((x.offset + b) / 10000000) :=
      add_sub_add_left_eq_sub ..
    rw [same, second_sub_toInt]
    simp only [BitVec.toNat_ofNat]
    split <;> omega
  rw [SiteTime.diff, seconds]
  simp only [SiteTime.later]
  omega

/-- Settles O49: every instant of the interval is Tk and a number of ticks, and their differences are those of the numbers. -/
theorem airtimeInterval : Obligations.AirtimeInterval := by
  intro sec o n rate d c ho dLow dHigh latency lead hTail nLow nHigh p x tail sum
  have period : rate.period = p := rfl
  have pRange : 3125 ≤ p ∧ p ≤ 6250 := by
    rw [← period]
    cases rate <;> decide
  have time : n * p ≤ 51200000 := by
    calc n * p ≤ 8192 * 6250 := Nat.mul_le_mul nHigh pRange.2
      _ = 51200000 := rfl
  have least : 3125 ≤ n * p := by
    calc 3125 ≤ p := pRange.1
      _ ≤ n * p := Nat.le_mul_of_pos_left p nLow
  have tRange : x.t.offset < 10000000 := normalise_offset sec _ (by omega) (by omega)
  have tkRange : x.tk.offset < 10000000 := correct_neg_offset tRange (by omega)
  have t_eq : x.t = x.tk.later c.lead := (correct_neg_later tRange (by omega)).symm
  have tk_eq : x.tk = x.tk.later 0 := (later_zero tkRange).symm
  have tail_eq : tail = x.tk.later (c.lead + n * p) := by
    simp only [tail]
    rw [t_eq, later_later]
  have tend_eq : x.tend = x.tk.later (c.lead + (n * p + c.tail)) := by
    rw [← later_later, ← t_eq]
    rfl
  have diff {a b : Nat} (ha : a ≤ 100000000) (hb : b ≤ 100000000) :
      (x.tk.later a).diff (x.tk.later b) = (a : Int) - b := later_diff_later x.tk tkRange ha hb
  refine ⟨rfl, ?_, ?_, by omega, ?_, ?_, ?_, ?_, ?_, fun none => ?_, fun k _ => ?_, fun tk1 tend1 tk2 tend2 => ?_⟩
  · simp only [sum]
    omega
  · have whole : x.tend.diff x.tk = (x.tk.later (c.lead + (n * p + c.tail))).diff (x.tk.later 0) := by rw [← tend_eq, ← tk_eq]
    rw [whole, diff (by omega) (by omega)]
    omega
  · omega
  · have lead_eq : x.tk.diff x.t = (x.tk.later 0).diff (x.tk.later c.lead) := by rw [← t_eq, ← tk_eq]
    rw [lead_eq, diff (by omega) (by omega)]
    omega
  · have batch : x.t.diff tail = (x.tk.later c.lead).diff (x.tk.later (c.lead + n * p)) := by rw [← t_eq, ← tail_eq]
    rw [batch, diff (by omega) (by omega)]
    omega
  · rw [tail_eq, tend_eq, diff (by omega) (by omega)]
    omega
  · have whole : x.t.diff x.tend = (x.tk.later c.lead).diff (x.tk.later (c.lead + (n * p + c.tail))) := by
      rw [← t_eq, ← tend_eq]
    rw [whole, diff (by omega) (by omega)]
    omega
  · rw [tend_eq, tail_eq, none, Nat.add_zero]
  · rw [later_later, Nat.succ_mul]
  · rw [intersects, Bool.and_eq_true, before_iff, before_iff]

end Sys2Proof.Machine
end

section
/-! PROOFS. Requests as events, and the requests that act on queues and mutes: MUTE, UNMUTE, FLUSH, CANCEL (R127, R128, R141,
R143 to R145). -/

namespace Sys2Proof.Machine

/-! ### Requests as events -/

/-- An accepted request's reply and the state it leaves (R165, R166). -/
theorem requestEvent_eq {s t : State} (accepts : Accepts s) (tag : Byte) {r : Request} {a : Reply}
    (run : runRequest r s = (a, t)) :
    requestEvent tag r s = .next (t.enqueue ⟨requestKind r + 0x80, tag, a.body⟩) := by
  rw [requestEvent_of_accepts accepts, run, replyKind_requestKind]

/-- The same for a good frame of any kind and body. -/
theorem exec_unknownKind_eq {s t : State} (accepts : Accepts s) {kind tag : Byte} {body : List Byte} {a : Reply}
    (run : runFrame kind body s = (a, t)) :
    exec (.unknownKind kind tag body) s = .next (t.enqueue ⟨replyKind kind, tag, a.body⟩) := by
  show event _ s = _
  rw [event_running accepts.1, acceptFrame_of_accepts accepts, run, settle_enqueue]

/-! ### Masks -/

theorem maskOk_iff (b : Byte) : maskOk b = true ↔ b.toNat < 16 := by simp [maskOk]

theorem maskChans_maskOf (b : Byte) : maskChans (maskOf b) = allChans.filter (fun n => b.getLsbD n.val) := by
  refine List.filter_congr fun n _ => ?_
  simp [maskOf]

/-- A mask above bit 3 is field 1 of its request (R170). -/
theorem firstBad_mask {b : Byte} (high : 16 ≤ b.toNat) (rest : List Bool) : firstBad 1 (maskOk b :: rest) = some 1 := by
  have bad : maskOk b = false := by simpa [maskOk] using high
  simp [firstBad, bad]

theorem reqMute_bad {mask : Byte} (high : 16 ≤ mask.toNat) (mode : Byte) (s : State) :
    reqMute mask mode s = (badField 1, s) := withFields_of_some (firstBad_mask high _) ..

theorem reqMute_ok {mask mode : Byte} (low : mask.toNat < 16) (known : mode.toNat < 2) (s : State) :
    reqMute mask mode s = (okWith [], forChans (if mode = 0 then muteNowChan else muteAfterChan)
      (allChans.filter (fun n => mask.getLsbD n.val)) s) := by
  rw [reqMute, maskChans_maskOf]
  exact withFields_of_none (by simp [firstBad, (maskOk_iff mask).mpr low, known]) ..

theorem reqMute_mode {mask mode : Byte} (low : mask.toNat < 16) (unknown : 1 < mode.toNat) (s : State) :
    reqMute mask mode s = (badField 2, s) :=
  withFields_of_some (by simp [firstBad, (maskOk_iff mask).mpr low, Nat.not_lt.mpr unknown]) ..

/-! ### Mutes -/

/-- A mute NOW sets the mute and drops a pending one before the cut (R145). -/
theorem muteNowChan_eq (n : Chan) (s : State) : muteNowChan n s = cutMuted n (State.pendIf
    (s.setSeq n { (s.chan n).seq with portMute := true, muteAfter := false })
    (!(s.chan n).seq.portMute && !s.dir.muteMask.getLsbD n.val) .channel) := by
  have changes : ((s.chan n).seq.portMute != true) = !(s.chan n).seq.portMute := by cases (s.chan n).seq.portMute <;> rfl
  have muted : setMuteAfter n false (setPortMute n true s) = State.pendIf
      (s.setSeq n { (s.chan n).seq with portMute := true, muteAfter := false })
      (!(s.chan n).seq.portMute && !s.dir.muteMask.getLsbD n.val) .channel := by
    rw [setPortMute_eq, changes]
    apply State.ext <;> simp [setMuteAfter]
  rw [muteNowChan, muted]

theorem unmuteChan_eq (n : Chan) (s : State) : unmuteChan n s = State.pendIf
    (s.setSeq n { (s.chan n).seq with portMute := false, muteAfter := false })
    ((s.chan n).seq.portMute && !s.dir.muteMask.getLsbD n.val) .channel := by
  rw [unmuteChan, setPortMute_eq]
  apply State.ext <;> simp [setMuteAfter]

theorem setPortMute_true {n : Chan} {s : State} (unmuted : (s.chan n).seq.portMute = false) : setPortMute n true s =
    State.pendIf (s.setSeq n { (s.chan n).seq with portMute := true }) (!s.dir.muteMask.getLsbD n.val) .channel := by
  rw [setPortMute_eq, unmuted]
  rfl

/-- A mute AFTER of an unmuted channel, by its state (R145). -/
theorem muteAfterChan_idle {n : Chan} {s : State} (unmuted : (s.chan n).seq.portMute = false)
    (idle : (s.chan n).seq.state = .idle) : muteAfterChan n s = setPortMute n true s := by
  rw [muteAfterChan, if_neg (by simp [unmuted]), idle]

theorem muteAfterChan_later {n : Chan} {s : State} (unmuted : (s.chan n).seq.portMute = false)
    (state : (s.chan n).seq.state = .keying ∨ (s.chan n).seq.state = .sending ∨ (s.chan n).seq.state = .tail ∨
      (s.chan n).seq.state = .disabled) : muteAfterChan n s = setMuteAfter n true s := by
  rw [muteAfterChan, if_neg (by simp [unmuted])]
  obtain state | state | state | state := state <;> rw [state]

theorem muteAfterChan_hold {n : Chan} {s : State} (unmuted : (s.chan n).seq.portMute = false)
    (held : (s.chan n).seq.state = .hold) : muteAfterChan n s = release n (setMuteAfter n true s) := by
  rw [muteAfterChan, if_neg (by simp [unmuted]), held]

/-- A mute NOW of a keyed channel is the cut of its state's row (R144). -/
theorem cutMuted_batchEnded {s : State} {n : Chan} {h : Entry} {rest : List Entry} (queue : (s.chan n).queue = h :: rest)
    (active : h.state = .active) :
    ((s.chan n).seq.state = .keying → BatchEnded s n h rest .muted 0 none (cutMuted n s)) ∧
    ((s.chan n).seq.state = .sending → BatchEnded s n h rest .abortedMute 0 none (cutMuted n s)) ∧
    ((s.chan n).seq.state = .tail → BatchEnded s n h rest (if (s.chan n).seq.dry then .launchedDry else .launched) 0 none
      (cutMuted n s)) ∧
    ((s.chan n).seq.state = .hold → BatchEnded s n h rest .muted 0 none (cutMuted n s)) :=
  (directiveEffects.1 n s).2 h rest queue active

/-- Settles O33: the mask and the mode are judged first; each channel's mute is a change of its two flags and, keyed, the end
of its batch. -/
theorem mutesOfTheControlPort : Obligations.MutesOfTheControlPort := by
  refine ⟨⟨fun tag mask s accepts => ⟨fun high => ?_, fun low => ?_, fun mode low unknown => ?_, fun mode high => ?_⟩,
    fun n s => ?_⟩, fun tag mask s accepts => ⟨fun high => ⟨?_, ?_⟩, fun low => ⟨?_, ?_⟩⟩, fun n s => ?_⟩
  · exact requestEvent_eq accepts tag (r := .mute mask 0) (reqMute_bad high 0 s)
  · exact requestEvent_eq accepts tag (r := .mute mask 0) (reqMute_ok low (by decide) s)
  · exact exec_unknownKind_eq accepts (kind := 0x18) (body := [mask, mode]) (reqMute_mode low unknown s)
  · exact exec_unknownKind_eq accepts (kind := 0x18) (body := [mask, mode]) (reqMute_bad high mode s)
  · intro q muted
    have seq : (muted.chan n).seq = { q with portMute := true, muteAfter := false } := by simp [muted]
    have queues : (muted.chan n).queue = (s.chan n).queue := by simp [muted]
    rw [muteNowChan_eq]
    refine ⟨fun rests => (directiveEffects.1 n muted).1 (by rw [seq]; exact rests), fun h rest queue active => ?_⟩
    have rows := cutMuted_batchEnded (queues.trans queue) active
    rw [seq] at rows
    exact rows
  · exact requestEvent_eq accepts tag (r := .mute mask 1) (reqMute_bad high 1 s)
  · exact requestEvent_eq accepts tag (r := .unmute mask) (withFields_of_some (firstBad_mask high _) ..)
  · exact requestEvent_eq accepts tag (r := .mute mask 1) (reqMute_ok low (by decide) s)
  · refine requestEvent_eq accepts tag (r := .unmute mask) (a := okWith []) ?_
    show reqUnmute mask s = _
    rw [reqUnmute, maskChans_maskOf, withFields_of_none (by simp [firstBad, (maskOk_iff mask).mpr low])]
    rfl
  · intro q byHub
    refine ⟨unmuteChan_eq n s, fun muted => ?_, fun unmuted => ⟨fun idle => ?_, fun state => ?_, fun h rest held queue active => ?_⟩⟩
    · rw [muteAfterChan, if_pos muted]
    · rw [muteAfterChan_idle unmuted idle, setPortMute_true unmuted]
    · rw [muteAfterChan_later unmuted state]
      rfl
    · rw [muteAfterChan_hold unmuted held]
      have seq : ((setMuteAfter n true s).chan n).seq = { q with muteAfter := true } := by simp [setMuteAfter, q]
      have queues : ((setMuteAfter n true s).chan n).queue = h :: rest := by simpa [setMuteAfter] using queue
      have ended := endActive_batchEnded ((setMuteAfter n true s).chan n).seq.launchOutcome queues active
      rw [seq] at ended
      rw [release, seq]
      exact ended

/-! ### FLUSH -/

theorem flushable_eq (queue : List Entry) : flushable queue = queue.filter (fun e => decide (e.state ≠ .active)) := rfl

/-- Settles O34: the removals of a flush, with their records, are those of `retireAll`. -/
theorem flushRemovesQueued : Obligations.FlushRemovesQueued := by
  refine ⟨fun tag mask s accepts => ⟨fun high => ?_, fun low => ?_⟩, fun n s => ?_⟩
  · exact requestEvent_eq accepts tag (r := .flush mask) (withFields_of_some (firstBad_mask high _) ..)
  · have counts : flushCounts (maskOf mask) s = allChans.map (fun n => BitVec.ofNat 8 (if mask.getLsbD n.val then
        ((s.chan n).queue.filter (fun e => e.state ≠ .active)).length else 0)) := by
      have bit (n : Chan) : (maskOf mask).getLsbD n.val = mask.getLsbD n.val := by simp [maskOf]
      rw [flushCounts, List.map_eq_flatMap]
      simp only [bit]
      rfl
    have run : reqFlush mask s = (okWith (flushCounts (maskOf mask) s), flushMask (maskOf mask) s) :=
      withFields_of_none (by simp [firstBad, (maskOk_iff mask).mpr low]) ..
    rw [counts, flushMask, maskChans_maskOf] at run
    exact requestEvent_eq accepts tag (r := .flush mask) run
  · intro gone u
    obtain ⟨ring, counts, port⟩ := retireAll_records n .flushed gone s
    have records := writeRecords_records (gone.map (fun e => e.record n .flushed 0)) s
    refine ⟨retireAll n .flushed gone s, rfl, ?_, fun m hm => ?_, retireAll_pool .., ?_, ?_, retireAll_context n .flushed gone s,
      by simp, by simp, by simp, by simp, by simp, by simp, by simp, by simp, ring, counts, port, by simp⟩
    · have queue := retireAll_filter_queue n .flushed (fun e => decide (e.state ≠ .active)) s
      rw [retireAll_chan, if_pos rfl] at queue ⊢
      have left : (s.chan n).queue.diff gone = (s.chan n).queue.filter (fun e => decide (e.state = .active)) :=
        queue.trans (List.filter_congr fun e _ => by simp)
      rw [left]
    · rw [retireAll_chan, if_neg hm]
    · rw [ring]
      exact records.1
    · rw [counts, writeRecords_counts, List.foldl_map]
      rfl

/-! ### CANCEL and the decision of a holding sequencer -/

theorem findTag_eq_none {tag : BitVec 16} {s : State} (none : ∀ n : Chan, ∀ e ∈ (s.chan n).queue, e.tag ≠ tag) :
    findTag tag s = Option.none := by
  rw [findTag, List.findSome?_eq_none_iff]
  intro n _
  rw [Option.map_eq_none_iff, List.find?_eq_none]
  exact fun e he => by simpa using none n e he

/-- The tag's one holder is the entry that CANCEL finds (R119, R127). -/
theorem findTag_eq_some {s : State} (unique : TagsUnique s) {n : Chan} {e : Entry} (queued : e ∈ (s.chan n).queue) :
    findTag e.tag s = some (n, e) := by
  cases found : findTag e.tag s with
  | none =>
    rw [findTag, List.findSome?_eq_none_iff] at found
    have missed := found n (mem_allChans n)
    rw [Option.map_eq_none_iff, List.find?_eq_none] at missed
    exact absurd (missed e queued) (by simp)
  | some p =>
    obtain ⟨m, x⟩ := p
    have first := found
    rw [findTag, List.findSome?_eq_some_iff] at first
    obtain ⟨before, k, after, -, here, -⟩ := first
    obtain ⟨y, hy, eq⟩ := Option.map_eq_some_iff.mp here
    obtain ⟨rfl, rfl⟩ := Prod.mk.inj eq
    have tag : y.tag = e.tag := by simpa using List.find?_some hy
    obtain ⟨rfl, rfl⟩ := entry_of_tag unique (List.mem_of_find?_eq_some hy) queued tag
    rfl

/-- Settles O35: the tag is looked up, and a holding sequencer goes by the entry behind its active batch. -/
theorem cancelAndHoldDecision : Obligations.CancelAndHoldDecision := by
  refine ⟨fun tag batch s accepts unique => ⟨fun none => ?_, fun n e queued tag_eq => ⟨fun active => ?_, fun waits => ?_⟩⟩,
    fun n s => ?_⟩
  · refine requestEvent_eq accepts tag (r := .cancel batch) (a := refusal .notFound) ?_
    show reqCancel batch s = _
    rw [reqCancel, findTag_eq_none none]
  · refine requestEvent_eq accepts tag (r := .cancel batch) (a := refusal .state) ?_
    show reqCancel batch s = _
    rw [reqCancel, ← tag_eq, findTag_eq_some unique queued]
    dsimp only
    rw [if_pos active]
  · have code : byte1 e.state.code = [if e.state = .assembling then 0 else 1] := by
      cases state : e.state with
      | assembling | ready => rfl
      | active => exact absurd state waits
    have run : reqCancel batch s = (okWith (byte1 n.val ++ byte1 e.state.code), cancelEntry n e s) := by
      rw [reqCancel, ← tag_eq, findTag_eq_some unique queued]
      dsimp only
      rw [if_neg waits]
    rw [code] at run
    exact requestEvent_eq accepts tag (r := .cancel batch) run
  · intro c
    refine ⟨fun other => ?_, fun h b rest held queue near => ?_, fun h rest held queue active far => ?_⟩
    · rw [redecide, if_neg fun both => other both.1]
    · have holds : (s.chan n).holdsOn = true := (holdsOn_cons queue).mpr ⟨b, rfl, near⟩
      rw [redecide, if_neg (by simp [holds])]
    · have ends : (s.chan n).holdsOn = false := by
        rw [← Bool.not_eq_true, holdsOn_cons queue]
        rintro ⟨b, hb, near⟩
        exact absurd near (Int.not_le.mpr (far b hb))
      have released : redecide n s = release n s := by rw [redecide, if_pos ⟨held, ends⟩]
      rw [released]
      exact endActive_batchEnded _ queue active

end Sys2Proof.Machine
end

section
/-! PROOFS. The requests that replace a record or a value: parameters, channel settings, the Channel Map, time, counts, the
link counts, the reply word, RESET (R17, R33, R35, R36, R69, R80, R88, R159, R167, R175, R176). -/

namespace Sys2Proof.Machine

/-! ### Checked fields -/

/-- The first field out of range, by its place in the list (R166). -/
theorem firstBad_eq (i : Nat) (checks : List Bool) :
    firstBad i checks = (checks.findIdx? (fun b => !b)).map (fun j => j + i) := by
  induction checks generalizing i with
  | nil => rfl
  | cons ok rest ih =>
    cases ok
    · simp [firstBad, List.findIdx?_cons]
    · rw [firstBad, if_pos rfl, ih, List.findIdx?_cons]
      simp [Function.comp_def, Nat.add_right_comm, Nat.add_assoc]

theorem firstBad_of_some {i j : Nat} {checks : List Bool} (bad : checks.findIdx? (fun b => !b) = some j) :
    firstBad i checks = some (j + i) := by
  rw [firstBad_eq, bad]
  rfl

theorem firstBad_of_none {i : Nat} {checks : List Bool} (sound : checks.findIdx? (fun b => !b) = none) :
    firstBad i checks = none := by
  rw [firstBad_eq, sound]
  rfl

/-- A channel number above 3 is field 1 of its request. -/
theorem firstBad_channel {ch : Byte} (high : 4 ≤ ch.toNat) (rest : List Bool) :
    firstBad 1 (decide (ch.toNat < 4) :: rest) = some 1 := by
  simp [firstBad, Nat.not_lt.mpr high]

theorem chan_toNat (n : Chan) : (BitVec.ofNat 8 n.val).toNat = n.val := by
  have := n.isLt
  simp only [BitVec.toNat_ofNat]
  omega

theorem chan_ofNat_toNat (n : Chan) : Fin.ofNat 4 (BitVec.ofNat 8 n.val).toNat = n := by
  rw [chan_toNat]
  exact Fin.ext (Nat.mod_eq_of_lt n.isLt)

/-- A byte below a bound of two has one of two values. -/
theorem byte_eq_ofNat {b : Byte} {k : Nat} (h : b.toNat = k) : b = BitVec.ofNat 8 k := by
  rw [← h, BitVec.ofNat_toNat, BitVec.setWidth_eq]

/-! ### SET PARAMETERS -/

theorem modeOf_isSome (b : Byte) : (modeOf b).isSome = decide (b.toNat < 3) := by
  revert b
  decide

theorem modeOf_getD {b : Byte} (known : b.toNat < 3) : (modeOf b).getD .auto =
    if b = 0 then .auto else if b = 1 then .transparentChange else .transparentVerified := by
  revert b
  decide

theorem replaceParams_eq (p : Params) (s : State) : replaceParams p s = { s with
    params := p
    dir := { s.dir with history :=
      if p.mode ≠ s.params.mode ∨ p.siteAddress ≠ s.params.siteAddress then [] else s.dir.history }
    port := { s.port with notices := s.port.notices.inter p.enables } } := by
  by_cases moved : p.mode ≠ s.params.mode ∨ p.siteAddress ≠ s.params.siteAddress
  · rw [if_pos moved]
    simp only [replaceParams, ← Bool.decide_or, decide_eq_true moved]
    rfl
  · rw [if_neg moved]
    simp only [replaceParams, ← Bool.decide_or, decide_eq_false moved]
    rfl

/-- Settles O27: the checks name the first field out of range; a record that passes them is read field by field. -/
theorem setParametersReplaces : Obligations.SetParametersReplaces := by
  intro tag p s accepts ranges mode on old
  have checks : paramChecks p = ranges := by simp only [paramChecks, modeOf_isSome, ranges]
  refine ⟨fun i bad => ?_, fun sound => ?_⟩
  · refine requestEvent_eq accepts tag (r := .setParameters p) (a := badField (i + 1)) ?_
    exact withFields_of_some (checks ▸ firstBad_of_some bad) ..
  · have passed : firstBad 1 (paramChecks p) = none := checks ▸ firstBad_of_none sound
    have known : p.mode.toNat < 3 := by
      have all := (firstBad_eq_none 1).mp passed (modeOf p.mode).isSome (by simp [paramChecks])
      rwa [modeOf_isSome, decide_eq_true_iff] at all
    have record : paramsOf p = ⟨p.siteAddress.toNat, p.groupMask.extractLsb' 0 7, mode, p.window.toNat, p.slew.toNat,
        p.holdover.toNat, p.guardG.toNat, p.horizon.toNat, ⟨on 0, on 1, on 2, on 3, on 4, on 5, on 6⟩⟩ := by
      rw [paramsOf, modeOf_getD known]
      rfl
    have run : reqSetParameters p s = (okWith [], replaceParams (paramsOf p) s) := withFields_of_none passed ..
    rw [replaceParams_eq, record] at run
    exact requestEvent_eq accepts tag (r := .setParameters p) run

/-! ### SET CHANNEL -/

/-- The passages of new settings between DISABLED and IDLE (R36, R140). -/
theorem replaceSettings_enable {n : Chan} {c : Settings} {s : State} (disabled : (s.chan n).seq.state = .disabled)
    (enabled : c.enabled = true) : replaceSettings n c s = State.pendIf (s.setChan n { s.chan n with
      settings := c
      seq := { (s.chan n).seq with
        state := .idle, dry := false, sent := 0, muteAfter := false
        portMute := (s.chan n).seq.portMute || (s.chan n).seq.muteAfter } })
      ((s.chan n).seq.muteAfter && !(s.chan n).seq.portMute && !s.dir.muteMask.getLsbD n.val) .channel := by
  simp [replaceSettings, disabled, enabled, enterIdle_eq, State.setSeq, State.setChan_setChan]

theorem replaceSettings_disable {n : Chan} {c : Settings} {s : State} (idle : (s.chan n).seq.state = .idle)
    (off : c.enabled = false) : replaceSettings n c s =
      s.setChan n { s.chan n with settings := c, seq := { (s.chan n).seq with state := .disabled } } := by
  simp [replaceSettings, idle, off, State.setSeq, State.setChan_setChan]

theorem replaceSettings_stay {n : Chan} {c : Settings} {s : State}
    (stays : ((s.chan n).seq.state = .disabled ∧ c.enabled = false) ∨ ((s.chan n).seq.state = .idle ∧ c.enabled = true)) :
    replaceSettings n c s = s.setChan n { s.chan n with settings := c } := by
  obtain ⟨state, enabled⟩ | ⟨state, enabled⟩ := stays <;> simp [replaceSettings, state, enabled]

theorem busy_eq_false (c : Channel) :
    c.busy = false ↔ (c.seq.state = .idle ∨ c.seq.state = .disabled) ∧ c.queue = [] := by
  rw [Channel.busy, Bool.or_eq_false_iff, Bool.not_eq_false', List.isEmpty_iff]
  refine and_congr_left fun _ => ?_
  cases c.seq.state <;> decide

/-- Settles O28: the channel number, the settings, then whether the channel is free; the replacement by its state. -/
theorem setChannelReplaces : Obligations.SetChannelReplaces := by
  intro tag f s accepts ranges settings
  have checks (b : Byte) : settingsChecks b f = decide (b.toNat < 4) :: ranges := rfl
  refine ⟨fun b high => ?_, fun n => ?_⟩
  · exact requestEvent_eq accepts tag (r := .setChannel b f) (withFields_of_some (firstBad_channel high _) ..)
  · intro b c free
    have low : decide (b.toNat < 4) = true := decide_eq_true (by rw [chan_toNat]; exact n.isLt)
    have chan : Fin.ofNat 4 b.toNat = n := chan_ofNat_toNat n
    have judged : firstBad 1 (settingsChecks b f) = firstBad 2 ranges := by
      rw [checks, low]
      rfl
    have free_iff : c.busy = false ↔ free := busy_eq_false c
    have ran {t : State} (sound : ranges.findIdx? (fun ok => !ok) = none) (isFree : free)
        (replaced : replaceSettings n settings s = t) :
        exec (.setChannel tag b f) s = .next (t.enqueue ⟨0x89, tag, [0x00]⟩) := by
      refine requestEvent_eq accepts tag (r := .setChannel b f) (a := okWith []) ?_
      show reqSetChannel b f s = _
      rw [reqSetChannel, withFields_of_none (judged.trans (firstBad_of_none sound)), chan, free_iff.mpr isFree,
        ← replaced]
      rfl
    refine ⟨fun i bad => ?_, fun sound busy => ?_, fun sound isFree => ⟨fun disabled one => ?_, fun idle zero => ?_,
      fun stays => ?_⟩⟩
    · refine requestEvent_eq accepts tag (r := .setChannel b f) (a := badField (i + 2)) ?_
      exact withFields_of_some (judged.trans (firstBad_of_some bad)) ..
    · have isBusy : c.busy = true := Bool.eq_true_of_not_eq_false (mt free_iff.mp busy)
      refine requestEvent_eq accepts tag (r := .setChannel b f) (a := refusal .state) ?_
      show reqSetChannel b f s = _
      rw [reqSetChannel, withFields_of_none (judged.trans (firstBad_of_none sound)), chan, if_pos isBusy]
    · exact ran sound isFree (replaceSettings_enable disabled (decide_eq_true one))
    · exact ran sound isFree (replaceSettings_disable idle (by simp [settings, zero]))
    · refine ran sound isFree (replaceSettings_stay (stays.imp (fun h => ⟨h.1, ?_⟩) (fun h => ⟨h.1, ?_⟩)))
      · simp [settings, h.2]
      · simp [settings, h.2]

/-! ### Map, time and status -/

theorem mapEntryOf_none : mapEntryOf 0xFF = none := rfl

theorem mapEntryOf_chan (n : Chan) : mapEntryOf (BitVec.ofNat 8 n.val) = some n := by
  rw [mapEntryOf, chan_ofNat_toNat, if_pos (by rw [chan_toNat]; exact n.isLt)]

theorem mapChecks_findIdx (entries : List Byte) :
    (entries.map (fun b => decide (b.toNat < 4 ∨ b = 0xFF))).findIdx? (fun ok => !ok) =
      entries.findIdx? (fun b => decide (3 < b.toNat ∧ b ≠ 0xFF)) := by
  rw [List.findIdx?_map]
  congr 1
  funext b
  rw [Function.comp_apply, ← decide_not]
  exact decide_eq_decide.mpr (by rw [not_or, Nat.not_lt]; rfl)

theorem yesNo_of_high {b : Byte} (high : 1 < b.toNat) : yesNo b = false := by
  refine decide_eq_false ?_
  rintro (rfl | rfl) <;> simp at high

/-- Spare bits 0 is a word below 2^26 (11 section 11.6). -/
theorem wordSpare_eq_zero (w : DirWord) : wordSpare w = 0 ↔ w.toNat < 2 ^ 26 := by
  rw [wordSpare, ← BitVec.toNat_inj, BitVec.extractLsb'_toNat, Nat.shiftRight_eq_div_pow]
  have := w.isLt
  simp only [BitVec.ofNat_eq_ofNat, BitVec.toNat_ofNat]
  omega

/-- Settles O31: each request's own check, and the one field of the state that it replaces. -/
theorem mapTimeAndStatusRequests : Obligations.MapTimeAndStatusRequests := by
  refine ⟨fun tag s accepts => ⟨fun entries => ?_, fun second => ⟨fun valid state => ?_, fun barred => ?_⟩⟩,
    fun tag s accepts => ⟨?_, ?_, ?_, fun b high => ?_, fun w low => ?_, fun w high => ?_, ?_, ?_, fun option high => ?_⟩⟩
  · intro bad
    refine ⟨fun i named => ?_, fun sound => ⟨entries.map mapEntryOf, ?_, fun i => ⟨fun none => ?_, fun n some => ?_⟩⟩⟩
    · refine requestEvent_eq accepts tag (r := .writeChannelMap entries) (a := badField (i + 1)) ?_
      exact withFields_of_some (firstBad_of_some ((mapChecks_findIdx _).trans named)) ..
    · refine requestEvent_eq accepts tag (r := .writeChannelMap entries) (a := okWith []) ?_
      exact withFields_of_none (firstBad_of_none ((mapChecks_findIdx _).trans sound)) ..
    · rw [Fin.getElem_fin] at none ⊢
      rw [Vector.getElem_map, none, mapEntryOf_none]
    · rw [Fin.getElem_fin] at some ⊢
      rw [Vector.getElem_map, some, mapEntryOf_chan]
  · refine requestEvent_eq accepts tag (r := .setTime second) (a := refusal .state) ?_
    exact if_pos ((launchAllowed_iff s.tb).mpr (by tauto))
  · refine requestEvent_eq accepts tag (r := .setTime second) (a := okWith []) (if_neg fun allowed => ?_)
    obtain ⟨state, valid⟩ := (launchAllowed_iff s.tb).mp allowed
    obtain h | h | h := barred <;> simp_all
  · exact requestEvent_eq accepts tag (r := .clearCounts) (a := okWith s.countsReport) rfl
  · exact requestEvent_eq accepts tag (r := .readLinkStatus 0) (a := okWith s.linkReport) rfl
  · exact requestEvent_eq accepts tag (r := .readLinkStatus 1) (a := okWith s.linkReport) rfl
  · refine requestEvent_eq accepts tag (r := .readLinkStatus b) (a := badField 1) ?_
    exact withFields_of_some (by rw [yesNo_of_high high]; rfl) ..
  · refine requestEvent_eq accepts tag (r := .setReplyWord w) (a := okWith []) ?_
    exact withFields_of_none (by rw [decide_eq_true ((wordSpare_eq_zero w).mpr low)]; rfl) ..
  · refine requestEvent_eq accepts tag (r := .setReplyWord w) (a := badField 1) ?_
    exact withFields_of_some (by rw [decide_eq_false (mt (wordSpare_eq_zero w).mp (by omega))]; rfl) ..
  · exact requestEvent_eq accepts tag (r := .reset 0) (a := okWith []) rfl
  · exact requestEvent_eq accepts tag (r := .reset 1) (a := okWith []) rfl
  · refine exec_unknownKind_eq accepts (kind := 0x38) (body := [option]) (a := badField 1) ?_
    exact withFields_of_some (by rw [decide_eq_false (Nat.not_lt.mpr high)]; rfl) ..

end Sys2Proof.Machine
end

section
/-! PROOFS. The Zone Map: the storage check of a read, READ ZONES and WRITE ZONES (R24 to R28, R168). -/

namespace Sys2Proof.Machine

/-! ### A read under the storage check -/

theorem readZone_agrees {i : Byte} {s : State} {v : ZoneValue} (test : (s.zone i).test = some (v, false)) :
    readZone i s = (some v, s) := by
  rw [readZone, test]

theorem readZone_corrected {i : Byte} {s : State} {v : ZoneValue} (test : (s.zone i).test = some (v, true)) :
    readZone i s = (some v, { s.setZone i ⟨v, []⟩ with
      counts := { s.counts with corrected := countInc s.counts.corrected } }) := by
  rw [readZone, test]
  rfl

theorem readZone_lost {i : Byte} {s : State} (test : (s.zone i).test = none) :
    readZone i s = (none, State.pend { s with zones := { s.zones with
      entries := s.zones.entries.set i.toNat ⟨⟨false, 0⟩, []⟩ i.isLt
      tally := satInc 255 s.zones.tally
      lastIndex := some i } } .map) := by
  rw [readZone, test]
  rfl

/-- A bit changed among the differing bits in ascending order (log 10). -/
theorem mem_toggleBit {a b : Nat} {f : List Nat} (sorted : f.Pairwise (· < ·)) :
    a ∈ toggleBit b f ↔ (a ∈ f ∧ a ≠ b) ∨ (a = b ∧ b ∉ f) := by
  induction f with
  | nil => simp [toggleBit]
  | cons c rest ih =>
    obtain ⟨above, sorted⟩ := List.pairwise_cons.mp sorted
    rw [toggleBit]
    split
    next below =>
      have fresh : b ∉ c :: rest := by
        rintro (_ | ⟨_, later⟩)
        · exact absurd below (lt_irrefl _)
        · exact absurd (above b later) (by omega)
      rw [List.mem_cons (a := a)]
      have other : a ∈ c :: rest → a ≠ b := fun h e => fresh (e ▸ h)
      tauto
    next notBelow =>
      split
      next same =>
        subst same
        have other : a ∈ rest → a ≠ b := fun h => (above a h).ne'
        simp only [List.mem_cons]
        tauto
      next differs =>
        rw [List.mem_cons, ih sorted, List.mem_cons, List.mem_cons]
        constructor
        · rintro (rfl | h | h)
          · exact .inl ⟨.inl rfl, Ne.symm differs⟩
          · exact .inl ⟨.inr h.1, h.2⟩
          · exact .inr ⟨h.1, by simp [differs, h.2]⟩
        · tauto

theorem toggleBit_sorted {f : List Nat} (b : Nat) (sorted : f.Pairwise (· < ·)) : (toggleBit b f).Pairwise (· < ·) := by
  induction f with
  | nil => simp [toggleBit]
  | cons c rest ih =>
    obtain ⟨above, tail⟩ := List.pairwise_cons.mp sorted
    rw [toggleBit]
    split
    next below =>
      refine List.pairwise_cons.mpr ⟨fun a h => ?_, sorted⟩
      obtain _ | ⟨_, h⟩ := h
      · exact below
      · exact below.trans (above a h)
    next notBelow =>
      split
      · exact tail
      next differs =>
        refine List.pairwise_cons.mpr ⟨fun a h => ?_, ih tail⟩
        obtain ⟨h, -⟩ | ⟨rfl, -⟩ := (mem_toggleBit tail).mp h
        · exact above a h
        · omega

/-- Settles O37: the storage test decides the read; a disturbance changes the differing bits one by one. -/
theorem storageCheckOfZones : Obligations.StorageCheckOfZones := by
  refine ⟨fun i s => ⟨fun v => readZone_agrees, fun v => readZone_corrected, readZone_lost⟩, fun v a b => ⟨rfl, rfl, rfl⟩,
    fun i bits s running => ?_, fun a b f sorted => ⟨toggleBit_sorted b sorted, mem_toggleBit sorted⟩⟩
  show event _ s = _
  rw [event_running running]
  rfl

/-! ### Reads one after another -/

/-- The entry is corrected by a read (R25). -/
def ZoneEntry.mended (e : ZoneEntry) : Bool := match e.test with
  | some (_, corrected) => corrected
  | none => false

/-- An entry as a read of it leaves it (R25, R26). -/
def ZoneEntry.afterRead (e : ZoneEntry) : ZoneEntry := match e.test with
  | some (v, corrected) => if corrected then ⟨v, []⟩ else e
  | none => ⟨⟨false, 0⟩, []⟩

/-- What a read of an entry reports (R27). -/
def ZoneEntry.sent (e : ZoneEntry) : List Byte := match e.test with
  | some (v, _) => (if v.valid then 0x01 else 0x00) :: byte4 (BitVec.ofInt 32 v.d)
  | none => [0, 0, 0, 0, 0]

theorem zoneValueBytes_eq (v : ZoneValue) :
    zoneValueBytes v = (if v.valid then 0x01 else 0x00) :: byte4 (BitVec.ofInt 32 v.d) := by
  obtain ⟨valid, d⟩ := v
  cases valid <;> rfl

theorem test_cases (e : ZoneEntry) : e.test = none ∨ ∃ v corrected, e.test = some (v, corrected) := by
  cases h : e.test with
  | none => exact .inl rfl
  | some p => exact .inr ⟨p.1, p.2, rfl⟩

theorem sent_length (e : ZoneEntry) : e.sent.length = 5 := by
  unfold ZoneEntry.sent
  split <;> rfl

theorem readZone_sent (i : Byte) (s : State) :
    zoneValueBytes ((readZone i s).1.getD ⟨false, 0⟩) = (s.zone i).sent := by
  obtain test | ⟨v, corrected, test⟩ := test_cases (s.zone i)
  · have zero : zoneValueBytes ⟨false, 0⟩ = [0, 0, 0, 0, 0] := by decide
    rw [readZone_lost test, ZoneEntry.sent, test]
    exact zero
  · rw [ZoneEntry.sent, test]
    cases corrected
    · rw [readZone_agrees test]
      exact zoneValueBytes_eq v
    · rw [readZone_corrected test]
      exact zoneValueBytes_eq v

theorem ite_zone_eq (i j : Byte) (e : ZoneEntry) (s : State) :
    (if j = i then e else s.zone j) = ({ s with zones := { s.zones with entries := s.zones.entries.set i.toNat e i.isLt } }
      : State).zone j := (State.zone_setZone s i j e).symm

/-- What one read leaves in the Zone Map, the counts and the port. -/
theorem readZone_leaves (i : Byte) (s : State) :
    (∀ j, (readZone i s).2.zone j = if j = i then (s.zone i).afterRead else s.zone j) ∧
    (readZone i s).2.zones.ready = s.zones.ready ∧ (readZone i s).2.zones.clearing = s.zones.clearing ∧
    (readZone i s).2.zones.tally = (if (s.zone i).test.isNone then satInc 255 s.zones.tally else s.zones.tally) ∧
    (readZone i s).2.zones.lastIndex = (if (s.zone i).test.isNone then some i else s.zones.lastIndex) ∧
    (readZone i s).2.counts = { s.counts with
      corrected := if (s.zone i).mended then countInc s.counts.corrected else s.counts.corrected } ∧
    (readZone i s).2.port = { s.port with notices := { s.port.notices with
      map := s.port.notices.map || ((s.zone i).test.isNone && s.params.enables.map) } } := by
  obtain test | ⟨v, corrected, test⟩ := test_cases (s.zone i)
  · rw [readZone_lost test, ZoneEntry.mended, ZoneEntry.afterRead, test]
    refine ⟨fun j => ?_, by simp, by simp, by simp, by simp, by simp, ?_⟩
    · rw [ite_zone_eq, State.zone, State.pend_zones]
      rfl
    · rw [State.pend_port]
      cases enabled : s.params.enables.map <;> simp [NoticeSet.has, NoticeSet.put, enabled]
  · rw [ZoneEntry.mended, ZoneEntry.afterRead, test]
    cases corrected
    · rw [readZone_agrees test]
      refine ⟨fun j => ?_, rfl, rfl, rfl, rfl, rfl, by simp⟩
      by_cases same : j = i
      · simp [same]
      · simp [same]
    · rw [readZone_corrected test]
      exact ⟨fun j => State.zone_setZone s i j _, rfl, rfl, rfl, rfl, rfl, by simp⟩

/-- Reads entries one after another. -/
def readAll (is : List Byte) (s : State) : State := is.foldl (fun u i => (readZone i u).2) s

theorem readAll_cons (i : Byte) (is : List Byte) (s : State) : readAll (i :: is) s = readAll is (readZone i s).2 := rfl

/-- The read of an entry leaves what another entry's test finds. -/
theorem filter_readZone {i : Byte} {is : List Byte} (fresh : i ∉ is) (s : State) (p : ZoneEntry → Bool) :
    is.filter (fun j => p ((readZone i s).2.zone j)) = is.filter (fun j => p (s.zone j)) := by
  refine List.filter_congr fun j hj => ?_
  rw [(readZone_leaves i s).1, if_neg (ne_of_mem_of_not_mem hj fresh)]

theorem readAll_zone {is : List Byte} (distinct : is.Nodup) (s : State) (j : Byte) :
    (readAll is s).zone j = if j ∈ is then (s.zone j).afterRead else s.zone j := by
  induction is generalizing s with
  | nil => rfl
  | cons i is ih =>
    obtain ⟨fresh, distinct⟩ := List.nodup_cons.mp distinct
    rw [readAll_cons, ih distinct, (readZone_leaves i s).1]
    by_cases first : j = i
    · simp [first, fresh]
    · simp [first]

theorem readAll_keeps (is : List Byte) (s : State) : (readAll is s).tb = s.tb ∧ (readAll is s).params = s.params ∧
    (readAll is s).channelMap = s.channelMap ∧ (readAll is s).channels = s.channels ∧
    (readAll is s).framer = s.framer ∧ (readAll is s).dir = s.dir ∧ (readAll is s).contexts = s.contexts ∧
    (readAll is s).pool = s.pool ∧ (readAll is s).ring = s.ring ∧ (readAll is s).pins = s.pins ∧
    (readAll is s).zones.ready = s.zones.ready ∧ (readAll is s).zones.clearing = s.zones.clearing := by
  induction is generalizing s with
  | nil => exact ⟨rfl, rfl, rfl, rfl, rfl, rfl, rfl, rfl, rfl, rfl, rfl, rfl⟩
  | cons i is ih =>
    obtain ⟨tb, params, map, channels, framer, dir, contexts, pool, ring, pins, -, -⟩ := readZone_keeps i s
    obtain ⟨-, ready, clearing, -⟩ := readZone_leaves i s
    rw [readAll_cons, ← tb, ← params, ← map, ← channels, ← framer, ← dir, ← contexts, ← pool, ← ring, ← pins, ← ready,
      ← clearing]
    exact ih _

/-- The tally, the last index and the corrected count, by the entries lost and mended (R25, R26). -/
theorem readAll_tally {is : List Byte} (distinct : is.Nodup) {s : State} (bound : s.zones.tally ≤ 255) :
    (readAll is s).zones.tally = min 255 (s.zones.tally + (is.filter (fun i => (s.zone i).test.isNone)).length) := by
  induction is generalizing s with
  | nil => exact (Nat.min_eq_right bound).symm
  | cons i is ih =>
    obtain ⟨fresh, distinct⟩ := List.nodup_cons.mp distinct
    obtain ⟨-, -, -, tally, -⟩ := readZone_leaves i s
    have capped : satInc 255 s.zones.tally = min 255 (s.zones.tally + 1) := by
      unfold satInc
      split <;> omega
    rw [readAll_cons, ih distinct (by rw [tally, capped]; split <;> omega),
      filter_readZone fresh s (fun e => e.test.isNone), tally, capped, List.filter_cons]
    split
    · rw [List.length_cons]
      omega
    · rfl

theorem readAll_lastIndex {is : List Byte} (distinct : is.Nodup) (s : State) : (readAll is s).zones.lastIndex =
    ((is.filter (fun i => (s.zone i).test.isNone)).getLast?).or s.zones.lastIndex := by
  induction is generalizing s with
  | nil => rfl
  | cons i is ih =>
    obtain ⟨fresh, distinct⟩ := List.nodup_cons.mp distinct
    obtain ⟨-, -, -, -, lastIndex, -⟩ := readZone_leaves i s
    rw [readAll_cons, ih distinct, filter_readZone fresh s (fun e => e.test.isNone), lastIndex, List.filter_cons]
    split
    · rw [List.getLast?_cons]
      cases (is.filter (fun i => (s.zone i).test.isNone)).getLast? <;> rfl
    · rfl

theorem readAll_counts {is : List Byte} (distinct : is.Nodup) {s : State} (bound : s.counts.corrected ≤ 65535) :
    (readAll is s).counts = { s.counts with
      corrected := min 65535 (s.counts.corrected + (is.filter (fun i => (s.zone i).mended)).length) } := by
  induction is generalizing s with
  | nil => rw [List.filter_nil, List.length_nil, Nat.add_zero, Nat.min_eq_right bound]; rfl
  | cons i is ih =>
    obtain ⟨fresh, distinct⟩ := List.nodup_cons.mp distinct
    obtain ⟨-, -, -, -, -, counts, -⟩ := readZone_leaves i s
    have capped : countInc s.counts.corrected = min 65535 (s.counts.corrected + 1) := by
      rw [countInc_eq]
      split <;> omega
    rw [readAll_cons, ih distinct (by rw [counts, capped]; dsimp only; split <;> omega),
      filter_readZone fresh s ZoneEntry.mended, counts, capped, List.filter_cons]
    dsimp only
    split
    · rw [List.length_cons]
      congr 1
      omega
    · rfl

theorem readAll_port {is : List Byte} (distinct : is.Nodup) (s : State) : (readAll is s).port = { s.port with
    notices := { s.port.notices with map := s.port.notices.map ||
      (decide (is.filter (fun i => (s.zone i).test.isNone) ≠ []) && s.params.enables.map) } } := by
  induction is generalizing s with
  | nil => simp [readAll]
  | cons i is ih =>
    obtain ⟨fresh, distinct⟩ := List.nodup_cons.mp distinct
    obtain ⟨-, -, -, -, -, -, port⟩ := readZone_leaves i s
    obtain ⟨-, params, -⟩ := readZone_keeps i s
    rw [readAll_cons, ih distinct, filter_readZone fresh s (fun e => e.test.isNone), port, params, List.filter_cons]
    cases (s.zone i).test.isNone
    · simp
    · cases s.params.enables.map <;> simp

/-! ### READ ZONES -/

/-- The indices of `count` entries from `i` on. -/
def namedZones (i count : Nat) : List Byte := (List.range count).map (fun j => BitVec.ofNat 8 (i + j))

theorem namedZones_succ (i count : Nat) : namedZones i (count + 1) = BitVec.ofNat 8 i :: namedZones (i + 1) count := by
  simp [namedZones, List.range_succ_eq_map, Function.comp_def, Nat.add_right_comm, Nat.add_assoc]

theorem mem_namedZones {i count : Nat} (bound : i + count ≤ 256) {x : Byte} :
    x ∈ namedZones i count ↔ i ≤ x.toNat ∧ x.toNat < i + count := by
  simp only [namedZones, List.mem_map, List.mem_range]
  constructor
  · rintro ⟨j, hj, rfl⟩
    rw [BitVec.toNat_ofNat]
    omega
  · rintro ⟨low, high⟩
    exact ⟨x.toNat - i, by omega, by rw [Nat.add_sub_cancel' low, BitVec.ofNat_toNat, BitVec.setWidth_eq]⟩

theorem namedZones_nodup {i count : Nat} (bound : i + count ≤ 256) : (namedZones i count).Nodup := by
  refine List.nodup_range.map_on fun a ha b hb same => ?_
  have := congrArg BitVec.toNat same
  simp only [BitVec.toNat_ofNat, List.mem_range] at this ha hb
  omega

theorem readZonesFrom_succ (i count : Nat) (s : State) : readZonesFrom i (count + 1) s =
    (zoneValueBytes ((readZone (BitVec.ofNat 8 i) s).1.getD ⟨false, 0⟩) ++
      (readZonesFrom (i + 1) count (readZone (BitVec.ofNat 8 i) s).2).1,
      (readZonesFrom (i + 1) count (readZone (BitVec.ofNat 8 i) s).2).2) := rfl

theorem readZonesFrom_eq {i count : Nat} (bound : i + count ≤ 256) (s : State) : readZonesFrom i count s =
    ((namedZones i count).flatMap (fun j => (s.zone j).sent), readAll (namedZones i count) s) := by
  induction count generalizing i s with
  | zero => rfl
  | succ count ih =>
    have fresh : BitVec.ofNat 8 i ∉ namedZones (i + 1) count := fun h => by
      have := ((mem_namedZones (by omega)).mp h).1
      rw [BitVec.toNat_ofNat] at this
      omega
    have others : (namedZones (i + 1) count).flatMap (fun j => ((readZone (BitVec.ofNat 8 i) s).2.zone j).sent) =
        (namedZones (i + 1) count).flatMap (fun j => (s.zone j).sent) := by
      refine List.flatMap_congr fun j hj => ?_
      rw [(readZone_leaves _ s).1, if_neg (ne_of_mem_of_not_mem hj fresh)]
    rw [namedZones_succ, List.flatMap_cons, readAll_cons, ← others, ← readZone_sent, readZonesFrom_succ, ih (by omega)]

/-- One part of a run of parts of equal length. -/
theorem flatMap_part {α β : Type} {size : Nat} {f : α → List β} (length : ∀ a, (f a).length = size) (as : List α) {k : Nat}
    {a : α} (here : as[k]? = some a) : ((as.flatMap f).drop (size * k)).take size = f a := by
  induction as generalizing k with
  | nil => simp at here
  | cons x rest ih =>
    rw [List.flatMap_cons]
    cases k with
    | zero =>
      obtain rfl : x = a := by simpa using here
      rw [Nat.mul_zero, List.drop_zero, ← length x, List.take_left]
    | succ k =>
      rw [Nat.mul_succ, Nat.add_comm, ← List.drop_drop, ← length x, List.drop_left, length x]
      exact ih (by simpa using here)

theorem namedZones_getElem? {first count : Nat} {i : Byte} (low : first ≤ i.toNat) (high : i.toNat < first + count) :
    (namedZones first count)[i.toNat - first]? = some i := by
  rw [namedZones, List.getElem?_map, List.getElem?_range (by omega), Option.map_some, Nat.add_sub_cancel' low,
    BitVec.ofNat_toNat, BitVec.setWidth_eq]

theorem namedZones_length_flatMap (first count : Nat) {f : Byte → List Byte} (length : ∀ i, (f i).length = 5) :
    ((namedZones first count).flatMap f).length = 5 * count := by
  simp [List.length_flatMap, length, namedZones, Function.comp_def, Nat.mul_comm]

/-- Settles O29: the checks in their order, then the run of reads, field by field. -/
theorem readZonesReads : Obligations.ReadZonesReads := by
  intro tag first count s accepts run refuse
  have answer {a : Reply} {t : State} (ran : reqReadZones first count s = (a, t)) :
      run = .next (t.enqueue ⟨0x8A, tag, a.body⟩) := requestEvent_eq accepts tag (r := .readZones first count) ran
  refine ⟨fun range => answer (a := badField 2) (if_pos (by omega)), fun low high => ⟨fun unready => ?_, fun ready beyond => ?_,
    fun ready within => ?_⟩⟩
  · refine answer (a := refusal .notReady) ?_
    rw [reqReadZones, if_neg (by omega), if_pos unready]
  · refine answer (a := badField 2) ?_
    rw [reqReadZones, if_neg (by omega), if_neg (by simp [ready]), if_pos beyond]
  · intro named sent body mended lost t
    have distinct : named.Nodup := namedZones_nodup within
    obtain ⟨tb, params, map, channels, framer, dir, contexts, pool, ring, pins, isReady, clearing⟩ := readAll_keeps named s
    have zones (i : Byte) : t.zone i = _ := readAll_zone distinct s i
    refine ⟨answer (a := okWith body) ?_, ?_, isReady, clearing, readAll_tally distinct, ?_, tb, params, map, channels, framer,
      dir, contexts, pool, ring, pins, readAll_counts distinct, readAll_port distinct s, fun i from' below => ?_,
      fun i outside => ?_⟩
    · rw [reqReadZones, if_neg (by omega), if_neg (by simp [ready]), if_neg (by omega), readZonesFrom_eq within]
      rfl
    · exact namedZones_length_flatMap _ _ fun i => sent_length (s.zone i)
    · rw [show t.zones.lastIndex = _ from readAll_lastIndex distinct s]
      show _ = match lost.getLast? with
        | some i => some i
        | none => s.zones.lastIndex
      cases lost.getLast? <;> rfl
    · intro at'
      have part : at' = (s.zone i).sent := flatMap_part (fun j => sent_length _) named (namedZones_getElem? from' below)
      have after := zones i
      have read : i ∈ named := (mem_namedZones within).mpr ⟨from', below⟩
      rw [if_pos read, ZoneEntry.afterRead] at after
      rw [part, after, ZoneEntry.sent]
      obtain test | ⟨v, corrected, test⟩ := test_cases (s.zone i) <;> rw [test]
      · exact ⟨rfl, rfl⟩
      · exact ⟨rfl, rfl⟩
    · have unread : i ∉ named := fun h => by
        have := (mem_namedZones within).mp h
        omega
      rw [zones, if_neg unread]

end Sys2Proof.Machine
end

section
/-! PROOFS. WRITE ZONES: the parts of a body, the fields they give, and the entries written (R24, R28, R168). -/

namespace Sys2Proof.Machine

/-! ### Pieces of a body -/

@[simp] theorem pieces_length (size count : Nat) (bytes : List Byte) : (pieces size count bytes).length = count := by
  induction count generalizing bytes with
  | zero => rfl
  | succ count ih => rw [pieces, List.length_cons, ih]

theorem pieces_getElem? {size count j : Nat} (inside : j < count) (bytes : List Byte) :
    (pieces size count bytes)[j]? = some ((bytes.drop (size * j)).take size) := by
  induction count generalizing bytes j with
  | zero => omega
  | succ count ih =>
    cases j with
    | zero => rfl
    | succ j =>
      rw [pieces, List.getElem?_cons_succ, ih (by omega), List.drop_drop, Nat.mul_succ, Nat.add_comm]

/-- A byte of a piece is the byte of the body at its place. -/
theorem piece_getD {size j k : Nat} (inside : k < size) (bytes : List Byte) :
    ((bytes.drop (size * j)).take size).getD k 0 = bytes.getD (size * j + k) 0 := by
  simp [List.getD_eq_getElem?_getD, inside]

/-! ### The fields of the entries -/

theorem firstBad_append {as : List Bool} (sound : ∀ b ∈ as, b = true) (i : Nat) (bs : List Bool) :
    firstBad i (as ++ bs) = firstBad (i + as.length) bs := by
  induction as generalizing i with
  | nil => rfl
  | cons a as ih =>
    obtain rfl : a = true := sound a List.mem_cons_self
    rw [List.cons_append, firstBad, if_pos rfl, ih (fun b h => sound b (List.mem_cons_of_mem _ h)), List.length_cons]
    congr 1
    omega

theorem zoneChecks_sound {b : List Byte} : (∀ ok ∈ zoneChecks b, ok = true) ↔
    (b.getD 0 0 = 0 ∨ b.getD 0 0 = 1) ∧ -50000 ≤ zoneD b ∧ zoneD b ≤ 50000 := by
  simp [zoneChecks, yesNo]

theorem zoneChecks_length (es : List (List Byte)) : (es.flatMap zoneChecks).length = 2 * es.length := by
  simp [List.length_flatMap, zoneChecks, Nat.mul_comm]

/-- The first entry that is not sound gives the field: its valid flag, or its D (R28). -/
theorem firstBad_zoneChecks {es : List (List Byte)} {j : Nat} {b : List Byte} (here : es[j]? = some b)
    (before : ∀ k < j, ∀ x, es[k]? = some x → ∀ ok ∈ zoneChecks x, ok = true) (bad : ¬∀ ok ∈ zoneChecks b, ok = true) :
    firstBad 3 (es.flatMap zoneChecks) =
      some (2 * (j + 1) + (if b.getD 0 0 = 0 ∨ b.getD 0 0 = 1 then 2 else 1)) := by
  obtain ⟨inside, rfl⟩ := List.getElem?_eq_some_iff.mp here
  have parts : es.flatMap zoneChecks = (es.take j).flatMap zoneChecks ++ (zoneChecks es[j] ++
      (es.drop (j + 1)).flatMap zoneChecks) := by
    rw [← List.flatMap_cons, ← List.drop_eq_getElem_cons inside, ← List.flatMap_append, List.take_append_drop]
  have sound : ∀ ok ∈ (es.take j).flatMap zoneChecks, ok = true := fun ok h => by
    obtain ⟨x, hx, hok⟩ := List.mem_flatMap.mp h
    obtain ⟨k, hk, rfl⟩ := List.mem_take_iff_getElem.mp hx
    exact before k (by omega) _ (List.getElem?_eq_getElem _) ok hok
  have length : (es.take j).length = j := by
    rw [List.length_take]
    omega
  rw [zoneChecks_sound] at bad
  rw [parts, firstBad_append sound, zoneChecks_length, length]
  by_cases flag : es[j].getD 0 0 = 0 ∨ es[j].getD 0 0 = 1
  · have range : ¬(-50000 ≤ zoneD es[j] ∧ zoneD es[j] ≤ 50000) := fun h => bad ⟨flag, h⟩
    rw [if_pos flag, zoneChecks, decide_eq_false range, yesNo, decide_eq_true flag]
    simp only [List.cons_append, firstBad, if_true, Bool.false_eq_true, if_false]
    congr 1
    omega
  · rw [if_neg flag, zoneChecks, yesNo, decide_eq_false flag]
    simp only [List.cons_append, firstBad, Bool.false_eq_true, if_false]
    congr 1
    omega

/-! ### The entries written -/

/-- The entry that five bytes write, with a fresh check code. -/
def zoneWritten (b : List Byte) : ZoneEntry := ⟨⟨b.getD 0 0 == 1, zoneD b⟩, []⟩

theorem writeZonesFrom_frame (i : Nat) (es : List (List Byte)) (s : State) : writeZonesFrom i es s = { s with
    zones := { s.zones with entries := (writeZonesFrom i es s).zones.entries } } := by
  induction es generalizing i s with
  | nil => rfl
  | cons b rest ih =>
    rw [writeZonesFrom, ih]
    rfl

theorem writeZonesFrom_zone {i : Nat} {es : List (List Byte)} (bound : i + es.length ≤ 256) (s : State) (j : Byte) :
    (writeZonesFrom i es s).zone j = if i ≤ j.toNat ∧ j.toNat < i + es.length
      then zoneWritten (es.getD (j.toNat - i) []) else s.zone j := by
  induction es generalizing i s with
  | nil =>
    rw [writeZonesFrom, if_neg]
    rw [List.length_nil]
    omega
  | cons b rest ih =>
    rw [List.length_cons] at bound ⊢
    have index : (BitVec.ofNat 8 i).toNat = i := by
      rw [BitVec.toNat_ofNat]
      omega
    rw [writeZonesFrom, ih (by omega), State.zone_setZone]
    by_cases first : j.toNat = i
    · have same : j = BitVec.ofNat 8 i := byte_eq_ofNat first
      rw [if_neg (by omega), if_pos same, if_pos (by omega), first, Nat.sub_self]
      rfl
    · have other : j ≠ BitVec.ofNat 8 i := fun h => first (h ▸ index)
      rw [if_neg other]
      by_cases within : i + 1 ≤ j.toNat ∧ j.toNat < i + 1 + rest.length
      · rw [if_pos within, if_pos (by omega), show j.toNat - i = (j.toNat - (i + 1)) + 1 by omega, List.getD_cons_succ]
      · rw [if_neg within, if_neg (by omega)]

/-- Settles O30: the checks in their order, the first field out of range by its entry, and the entries written. -/
theorem writeZonesWrites : Obligations.WriteZonesWrites := by
  intro tag first count entries s accepts run refuse at' d sound
  have answer {a : Reply} {t : State} (ran : reqWriteZones first count entries s = (a, t)) :
      run = .next (t.enqueue ⟨0x8B, tag, a.body⟩) := requestEvent_eq accepts tag (r := .writeZones first count entries) ran
  refine ⟨fun range => answer (a := badField 2) (if_pos (by omega)), fun low high => ⟨fun wrong => ?_, fun length =>
    ⟨fun unready => ?_, fun ready beyond => ?_, fun ready within => ?_⟩⟩⟩
  · refine answer (a := refusal .badLength) ?_
    rw [reqWriteZones, if_neg (by omega), if_pos wrong]
  · refine answer (a := refusal .notReady) ?_
    rw [reqWriteZones, if_neg (by omega), if_neg (by omega), if_pos unready]
  · refine answer (a := badField 2) ?_
    rw [reqWriteZones, if_neg (by omega), if_neg (by omega), if_neg (by simp [ready]), if_pos beyond]
  · let es := pieces 5 count.toNat entries
    have admitted : reqWriteZones first count entries s = match firstBad 3 (es.flatMap zoneChecks) with
        | some i => (badField i, s)
        | none => (okWith [], writeZonesFrom first.toNat es s) := by
      rw [reqWriteZones, if_neg (by omega), if_neg (by omega), if_neg (by simp [ready]), if_neg (by omega)] <;> rfl
    have flag (j : Nat) : ((entries.drop (5 * j)).take 5).getD 0 0 = at' (5 * j) := piece_getD (by decide) entries
    have value (j : Nat) : zoneD ((entries.drop (5 * j)).take 5) = d j := by
      simp only [zoneD, piece_getD (show 1 < 5 by decide), piece_getD (show 2 < 5 by decide),
        piece_getD (show 3 < 5 by decide), piece_getD (show 4 < 5 by decide), d, at', word4]
    have sound_iff (j : Nat) : (∀ ok ∈ zoneChecks ((entries.drop (5 * j)).take 5), ok = true) ↔ sound j := by
      rw [zoneChecks_sound, flag, value]
    refine ⟨fun j inside before bad => ?_, fun all => ⟨(writeZonesFrom first.toNat es s).zones.entries, ?_, fun i => ?_⟩⟩
    · have earlier (k : Nat) (below : k < j) (x : List Byte) (hx : es[k]? = some x) : ∀ ok ∈ zoneChecks x, ok = true := by
        rw [pieces_getElem? (below.trans inside)] at hx
        obtain rfl := Option.some.inj hx
        exact (sound_iff k).mpr (before k below)
      have judged := firstBad_zoneChecks (pieces_getElem? inside entries) earlier (mt (sound_iff j).mp bad)
      rw [flag] at judged
      refine answer (a := badField _) ?_
      rw [admitted, judged]
    · have judged : firstBad 3 (es.flatMap zoneChecks) = none := by
        refine (firstBad_eq_none 3).mpr fun ok hok => ?_
        obtain ⟨x, hx, hok⟩ := List.mem_flatMap.mp hok
        obtain ⟨k, hk⟩ := List.mem_iff_getElem?.mp hx
        have inside : k < count.toNat := by
          rw [← pieces_length 5 count.toNat entries]
          exact (List.getElem?_eq_some_iff.mp hk).1
        rw [pieces_getElem? inside] at hk
        obtain rfl := Option.some.inj hk
        exact (sound_iff k).mpr (all k inside) ok hok
      refine answer (a := okWith []) ?_
      rw [admitted, judged, ← writeZonesFrom_frame]
    · have index : (BitVec.ofNat 8 i.val).toNat = i.val := by
        rw [BitVec.toNat_ofNat]
        omega
      have stored (t : State) : t.zones.entries[i] = t.zone (BitVec.ofNat 8 i.val) := by
        simp only [State.zone, index, Fin.getElem_fin]
      have total : es.length = count.toNat := pieces_length ..
      rw [stored, stored, writeZonesFrom_zone (by omega), total, index]
      refine ite_congr rfl (fun inside => ?_) (fun _ => rfl)
      rw [List.getD_eq_getElem?_getD, pieces_getElem? (by omega), Option.getD_some, zoneWritten, flag, value]
      rfl

end Sys2Proof.Machine
end

section
/-! PROOFS. The reports, records and notice bodies field by field, and the requests that read (R20, R37, R69, R129, R159, R167,
R174, R179, 11 sections 11.3, 11.4 and 11.8). -/

namespace Sys2Proof.Machine

/-! ### Fields -/

theorem flag1_eq (b : Bool) : flag1 b = [if b then 0x01 else 0x00] := by cases b <;> rfl

theorem nat2_length (n : Nat) : (nat2 n).length = 2 := rfl

theorem seqState_keyed_eq (q : SeqState) : q.keyed = decide (q ≠ .disabled ∧ q ≠ .idle) := by cases q <;> rfl

/-- A notice set as a byte, bit by bit (R175). -/
theorem noticeByte_eq (x : NoticeSet) : noticeByte x = (if x.timebase then 2 ^ 0 else 0) + (if x.link then 2 ^ 1 else 0)
    + (if x.directive then 2 ^ 2 else 0) + (if x.channel then 2 ^ 3 else 0) + (if x.exception then 2 ^ 4 else 0)
    + (if x.map then 2 ^ 5 else 0) + (if x.power then 2 ^ 6 else 0) := by
  simp only [weight_mul, noticeByte, Nat.reducePow, Nat.one_mul]

theorem judgements_eq (w : DirWord) (p : Params) : judgements w p =
    [BitVec.ofNat 8 ((if addressedHere w p then 2 ^ 0 else 0) + (if wordDefined w then 2 ^ 1 else 0))] := by
  simp only [weight_mul, judgements, byte1, Nat.reducePow, Nat.one_mul]

theorem queueEntry_length (e : Entry) (sent : Nat) : (e.bytes sent).length = 40 := rfl

theorem countsReport_length (s : State) : s.countsReport.length = 73 := by
  simp [State.countsReport, nat2_length, List.length_flatMap, flag1, byte1]

theorem queueReport_length (s : State) (n : Chan) : (s.queueReport n).length = 3 + 40 * (s.chan n).queue.length := by
  simp [State.queueReport, queueEntry_length, List.length_flatMap, byte1]
  omega

/-- The requests that name a channel, with a channel number in range (R37, R129). -/
theorem firstBad_chan (n : Chan) : firstBad 1 [decide ((BitVec.ofNat 8 n.val).toNat < 4)] = none := by
  rw [decide_eq_true (by rw [chan_toNat]; exact n.isLt)]
  rfl

theorem reqGetChannel_eq (n : Chan) (s : State) :
    reqGetChannel (BitVec.ofNat 8 n.val) s = (okWith (s.chan n).settings.bytes, s) := by
  rw [reqGetChannel, withFields_of_none (firstBad_chan n), chan_ofNat_toNat]

theorem reqQueryQueue_eq (n : Chan) (s : State) :
    reqQueryQueue (BitVec.ofNat 8 n.val) s = (okWith (s.queueReport n), s) := by
  rw [reqQueryQueue, withFields_of_none (firstBad_chan n), chan_ofNat_toNat]

/-- Settles O25: each report is its fields in the order of chapter 11. -/
theorem reportsAndReadingRequests : Obligations.ReportsAndReadingRequests := by
  refine ⟨?_, ?_⟩
  · intro one two word tag2 flag bit time syncCode modeCode rateCode seqCode keyed
    have flags (b : Bool) : flag1 b = flag b := flag1_eq b
    have twos : nat2 = two := funext nat2_eq
    refine ⟨fun s => ⟨rfl, ?_⟩, fun p => ⟨rfl, ?_⟩, fun c => ⟨rfl, ?_⟩, fun s => ⟨countsReport_length s, ?_⟩, fun s => ⟨rfl, ?_⟩,
      fun s n => ⟨queueReport_length s n, rfl⟩, fun e sent => ⟨rfl, ?_⟩, fun r => ⟨?_, ?_⟩, by decide, ?_⟩
    · simp only [State.timebaseReport, flags, twos]
      rfl
    · simp only [Params.bytes, twos, noticeByte_eq]
      rfl
    · simp only [Settings.bytes, flags]
      rfl
    · simp only [State.countsReport, flags, twos]
      rfl
    · simp only [State.linkReport, flags]
      rfl
    · simp only [Entry.bytes, twos]
      rfl
    · rfl
    · simp only [LaunchRecord.bytes, twos]
      have chan : [mapEntryByte r.body.chan] = match r.body.chan with
          | some n => one n.val
          | none => [0xFF] := by
        cases r.body.chan <;> rfl
      have present : byte1 (r.body.t.isSome.toNat + 2 * r.body.received.isSome.toNat) =
          one (bit 0 r.body.t.isSome + bit 1 r.body.received.isSome) := by
        cases r.body.t <;> cases r.body.received <;> rfl
      have launch : timeOr0 r.body.t = match r.body.t with
          | some x => time x
          | none => [0, 0, 0, 0, 0, 0, 0, 0] := by
        cases r.body.t with
        | none => decide
        | some x => rfl
      rw [chan, present, launch]
      rfl
    · intro s judged channel
      have judgement (w : DirWord) : judgements w s.params = judged w := judgements_eq w s.params
      have report (n : Chan) : s.channelReport n = channel n := by
        have bits (a b c d e : Bool) : byte1 (a.toNat + 2 * b.toNat + 4 * c.toNat + 8 * d.toNat + 16 * e.toNat) =
            one (bit 0 a + bit 1 b + bit 2 c + bit 3 d + bit 4 e) := by
          simp only [bit, weight_mul, Nat.reducePow, Nat.one_mul]
          rfl
        simp only [State.channelReport, bits, twos, seqState_keyed_eq]
        cases queue : (s.chan n).queue with
        | nil => simp only [channel, queue, ite_self]; rfl
        | cons h rest => simp only [channel, queue]; rfl
      refine ⟨rfl, ⟨rfl, rfl⟩, ⟨?_, ?_⟩, ⟨rfl, ?_⟩, ⟨?_, ?_⟩, ⟨rfl, ?_⟩, ⟨rfl, ?_⟩⟩
      · simp only [State.noticeBody]
        cases s.dir.lastGood <;> rfl
      · simp only [State.noticeBody, judgement, flags]
        cases lastGood : s.dir.lastGood
        · rfl
        · rfl
      · show allChans.flatMap s.channelReport = _
        rw [funext report]
        rfl
      · simp only [State.noticeBody]
        cases s.ring.mark <;> rfl
      · simp only [State.noticeBody]
        cases s.ring.mark <;> rfl
      · simp only [State.noticeBody, flags, twos]
        cases s.zones.lastIndex <;> rfl
      · simp only [State.noticeBody, flags]
        rfl
  · intro tag s accepts
    refine ⟨requestEvent_eq accepts tag (r := .identify) rfl, requestEvent_eq accepts tag (r := .getParameters) rfl,
      fun n => ?_, fun b high => ?_, ?_, requestEvent_eq accepts tag (r := .readTime) rfl, fun n => ?_, fun b high => ?_,
      requestEvent_eq accepts tag (r := .readCounts) rfl⟩
    · exact requestEvent_eq accepts tag (r := .getChannel _) (reqGetChannel_eq n s)
    · exact requestEvent_eq accepts tag (r := .getChannel b) (withFields_of_some (firstBad_channel high _) ..)
    · have entry : mapEntryByte = fun o => match o with
          | some n => BitVec.ofNat 8 n.val
          | none => 0xFF := by
        funext o
        cases o <;> rfl
      have run := requestEvent_eq accepts tag (r := .readChannelMap) (a := okWith (s.channelMap.toList.map mapEntryByte)) rfl
      rw [entry] at run
      exact run
    · exact requestEvent_eq accepts tag (r := .queryQueue _) (reqQueryQueue_eq n s)
    · exact requestEvent_eq accepts tag (r := .queryQueue b) (withFields_of_some (firstBad_channel high _) ..)

end Sys2Proof.Machine
end

section
/-! PROOFS. Request bodies and their fields, and the frames that are not executed (R165, R166, R176, 11 section 11.3). -/

namespace Sys2Proof.Machine

/-! ### Packing read back (R179) -/

theorem word2_byte2 (w : BitVec 16) : word2 (w.extractLsb' 8 8) (w.extractLsb' 0 8) = w := byte2_join w

/-- The last byte of a word and the bits before it. -/
theorem extract_append_last {n : Nat} (x : BitVec n) (y : Byte) : (x ++ y).extractLsb' 0 8 = y := by
  refine BitVec.eq_of_getLsbD_eq fun i hi => ?_
  simp [BitVec.getLsbD_append, hi]

theorem extract_append_before {n : Nat} (x : BitVec n) (y : Byte) (k : Nat) :
    (x ++ y).extractLsb' (k + 8) 8 = x.extractLsb' k 8 := by
  refine BitVec.eq_of_getLsbD_eq fun i hi => ?_
  rw [BitVec.getLsbD_extractLsb', BitVec.getLsbD_extractLsb', BitVec.getLsbD_append, if_neg (by omega),
    show k + 8 + i - 8 = k + i by omega]

theorem byte2_word2 (a b : Byte) : byte2 (word2 a b) = [a, b] := by
  rw [byte2, word2, extract_append_last, extract_append_before a b 0, BitVec.extractLsb'_eq_self]

theorem word4_byte4 (w : BitVec 32) :
    word4 (w.extractLsb' 24 8) (w.extractLsb' 16 8) (w.extractLsb' 8 8) (w.extractLsb' 0 8) = w := by
  have first : w.extractLsb' 24 8 ++ w.extractLsb' 16 8 = w.extractLsb' 16 16 :=
    BitVec.extractLsb'_append_extractLsb'_eq_extractLsb' rfl
  have second : w.extractLsb' 16 16 ++ w.extractLsb' 8 8 = w.extractLsb' 8 24 :=
    BitVec.extractLsb'_append_extractLsb'_eq_extractLsb' rfl
  have third : w.extractLsb' 8 24 ++ w.extractLsb' 0 8 = w.extractLsb' 0 32 :=
    BitVec.extractLsb'_append_extractLsb'_eq_extractLsb' rfl
  rw [word4, first, second, third]
  exact BitVec.extractLsb'_eq_self

theorem byte4_word4 (a b c d : Byte) : byte4 (word4 a b c d) = [a, b, c, d] := by
  rw [byte4, word4, extract_append_last, extract_append_before _ d 0, extract_append_last, extract_append_before _ d 8,
    extract_append_before _ c 0, extract_append_last, extract_append_before _ d 16, extract_append_before _ c 8,
    extract_append_before a b 0, BitVec.extractLsb'_eq_self]

/-! ### The parsers of long bodies -/

theorem parseRequest_params (body : List Byte) : parseRequest 0x03 body = parseParams body := rfl

theorem parseRequest_setChannel (body : List Byte) : parseRequest 0x09 body = parseSetChannel body := rfl

theorem parseRequest_map (body : List Byte) : parseRequest 0x0D body = parseMap body := rfl

theorem parseRequest_header (body : List Byte) : parseRequest 0x20 body = parseHeader body := rfl

/-- Settles O22: each body is read back field by field. -/
theorem requestBodyReadsBack : Obligations.RequestBodyReadsBack := by
  intro r
  cases r with
  | identify | getParameters | readChannelMap | readTime | readCounts | clearCounts => rfl
  | getChannel | queryQueue | readZones | writeZones | mute | unmute | flush | readLinkStatus | reset | chain => rfl
  | setParameters p =>
    refine (parseRequest_params _).trans ?_
    simp [requestBody, byte2, byte4, parseParams, word2_byte2, word4_byte4]
  | setChannel ch f =>
    refine (parseRequest_setChannel _).trans ?_
    simp [requestBody, byte4, parseSetChannel, word4_byte4]
  | injectHeader h =>
    refine (parseRequest_header _).trans ?_
    simp [requestBody, byte2, byte4, parseHeader, word2_byte2, word4_byte4]
  | writeChannelMap entries =>
    refine (parseRequest_map _).trans ?_
    exact dif_pos entries.length_toList
  | setTime second => exact congrArg (fun w => Parsed.request (.setTime w)) (word4_byte4 second)
  | setReplyWord word => exact congrArg (fun w => Parsed.request (.setReplyWord w)) (word4_byte4 word)
  | cancel batch => exact congrArg (fun w => Parsed.request (.cancel w)) (word2_byte2 batch)
  | injectData batch first count segments =>
    exact congrArg (fun w => Parsed.request (.injectData w first count segments)) (word2_byte2 batch)
  | fetchRecords start maximum => exact congrArg (fun w => Parsed.request (.fetchRecords w maximum)) (word2_byte2 start)

/-! ### What a frame's kind and body say of its request -/

/-- A kind and body are read as a request of that kind and body, or the length is wrong. -/
def ReadsBack (kind : Byte) (body : List Byte) (p : Parsed) : Prop :=
  p = .badLength ∨ ∃ r, p = .request r ∧ requestKind r = kind ∧ requestBody r = body

theorem readsBack_none {r : Request} (empty : requestBody r = []) (body : List Byte) :
    ReadsBack (requestKind r) body (parseNone r body) := by
  cases body with
  | nil => exact .inr ⟨r, rfl, rfl, empty⟩
  | cons => exact .inl rfl

theorem readsBack_one {kind : Byte} {r : Byte → Request} (kinds : ∀ a, requestKind (r a) = kind)
    (single : ∀ a, requestBody (r a) = [a]) (body : List Byte) : ReadsBack kind body (parseOne r body) := by
  unfold parseOne
  split
  · exact .inr ⟨_, rfl, kinds _, single _⟩
  · exact .inl rfl

theorem readsBack_two {kind : Byte} {r : Byte → Byte → Request} (kinds : ∀ a b, requestKind (r a b) = kind)
    (both : ∀ a b, requestBody (r a b) = [a, b]) (body : List Byte) :
    ReadsBack kind body (match body with
      | [a, b] => .request (r a b)
      | _ => .badLength) := by
  split
  · exact .inr ⟨_, rfl, kinds .., both ..⟩
  · exact .inl rfl

theorem readsBack_four {kind : Byte} {r : BitVec 32 → Request} (kinds : ∀ w, requestKind (r w) = kind)
    (word : ∀ w, requestBody (r w) = byte4 w) (body : List Byte) :
    ReadsBack kind body (match body with
      | [a, b, c, d] => .request (r (word4 a b c d))
      | _ => .badLength) := by
  split
  · exact .inr ⟨_, rfl, kinds _, (word _).trans (byte4_word4 ..)⟩
  · exact .inl rfl

theorem readsBack_rest {kind : Byte} {r : Byte → Byte → List Byte → Request} (kinds : ∀ a b l, requestKind (r a b l) = kind)
    (parts : ∀ a b l, requestBody (r a b l) = a :: b :: l) (body : List Byte) :
    ReadsBack kind body (match body with
      | a :: b :: l => .request (r a b l)
      | _ => .badLength) := by
  split
  · exact .inr ⟨_, rfl, kinds .., parts ..⟩
  · exact .inl rfl

theorem readsBack_params (body : List Byte) : ReadsBack 0x03 body (parseParams body) := by
  unfold parseParams
  split
  · exact .inr ⟨_, rfl, rfl, by simp [requestBody, byte2_word2, byte4_word4]⟩
  · exact .inl rfl

theorem readsBack_setChannel (body : List Byte) : ReadsBack 0x09 body (parseSetChannel body) := by
  unfold parseSetChannel
  split
  · exact .inr ⟨_, rfl, rfl, by simp [requestBody, byte4_word4]⟩
  · exact .inl rfl

theorem readsBack_header (body : List Byte) : ReadsBack 0x20 body (parseHeader body) := by
  unfold parseHeader
  split
  · exact .inr ⟨_, rfl, rfl, by simp [requestBody, byte2_word2, byte4_word4]⟩
  · exact .inl rfl

theorem readsBack_map (body : List Byte) : ReadsBack 0x0D body (parseMap body) := by
  unfold parseMap
  split
  · exact .inr ⟨_, rfl, rfl, rfl⟩
  · exact .inl rfl

theorem readsBack_cancel (body : List Byte) : ReadsBack 0x1B body (parseRequest 0x1B body) := by
  show ReadsBack _ _ (match body with
    | [a, b] => .request (.cancel (word2 a b))
    | _ => .badLength)
  split
  · exact .inr ⟨_, rfl, rfl, byte2_word2 ..⟩
  · exact .inl rfl

theorem readsBack_injectData (body : List Byte) : ReadsBack 0x21 body (parseRequest 0x21 body) := by
  show ReadsBack _ _ (match body with
    | a :: b :: f :: c :: rest => .request (.injectData (word2 a b) f c rest)
    | _ => .badLength)
  split
  · exact .inr ⟨_, rfl, rfl, by simp [requestBody, byte2_word2]⟩
  · exact .inl rfl

theorem readsBack_fetch (body : List Byte) : ReadsBack 0x28 body (parseRequest 0x28 body) := by
  show ReadsBack _ _ (match body with
    | [a, b, m] => .request (.fetchRecords (word2 a b) m)
    | _ => .badLength)
  split
  · exact .inr ⟨_, rfl, rfl, by simp [requestBody, byte2_word2]⟩
  · exact .inl rfl

/-- The assigned kinds, by value (11 section 11.3). -/
def assignedKinds : List Nat :=
  [0x01, 0x02, 0x03, 0x08, 0x09, 0x0A, 0x0B, 0x0C, 0x0D, 0x10, 0x11, 0x18, 0x19, 0x1A, 0x1B, 0x1C, 0x20, 0x21,
    0x28, 0x29, 0x2A, 0x30, 0x31, 0x38, 0x3F]

theorem kindAssigned_iff (kind : Byte) : kindAssigned kind = true ↔ kind.toNat ∈ assignedKinds := by
  revert kind
  decide

theorem parseRequest_unassigned {kind : Byte} (unassigned : kind.toNat ∉ assignedKinds) (body : List Byte) :
    parseRequest kind body = .badKind := by
  simp only [assignedKinds, List.mem_cons, List.not_mem_nil, or_false, not_or] at unassigned
  simp [parseRequest, BitVec.toNat_eq, unassigned]

theorem parseRequest_readsBack {kind : Byte} (assigned : kind.toNat ∈ assignedKinds) (body : List Byte) :
    ReadsBack kind body (parseRequest kind body) := by
  simp only [assignedKinds, List.mem_cons, List.not_mem_nil, or_false] at assigned
  obtain h | h | h | h | h | h | h | h | h | h | h | h | h | h | h | h | h | h | h | h | h | h | h | h | h := assigned <;>
    obtain rfl := byte_eq_ofNat h
  · exact readsBack_none (r := .identify) rfl body
  · exact readsBack_none (r := .getParameters) rfl body
  · exact readsBack_params body
  · exact readsBack_one (r := .getChannel) (fun _ => rfl) (fun _ => rfl) body
  · exact readsBack_setChannel body
  · exact readsBack_two (r := .readZones) (fun _ _ => rfl) (fun _ _ => rfl) body
  · exact readsBack_rest (r := .writeZones) (fun _ _ _ => rfl) (fun _ _ _ => rfl) body
  · exact readsBack_none (r := .readChannelMap) rfl body
  · exact readsBack_map body
  · exact readsBack_four (r := .setTime) (fun _ => rfl) (fun _ => rfl) body
  · exact readsBack_none (r := .readTime) rfl body
  · exact readsBack_two (r := .mute) (fun _ _ => rfl) (fun _ _ => rfl) body
  · exact readsBack_one (r := .unmute) (fun _ => rfl) (fun _ => rfl) body
  · exact readsBack_one (r := .flush) (fun _ => rfl) (fun _ => rfl) body
  · exact readsBack_cancel body
  · exact readsBack_one (r := .queryQueue) (fun _ => rfl) (fun _ => rfl) body
  · exact readsBack_header body
  · exact readsBack_injectData body
  · exact readsBack_fetch body
  · exact readsBack_none (r := .readCounts) rfl body
  · exact readsBack_none (r := .clearCounts) rfl body
  · exact readsBack_one (r := .readLinkStatus) (fun _ => rfl) (fun _ => rfl) body
  · exact readsBack_four (r := .setReplyWord) (fun _ => rfl) (fun _ => rfl) body
  · exact readsBack_one (r := .reset) (fun _ => rfl) (fun _ => rfl) body
  · exact readsBack_rest (r := .chain) (fun _ _ _ => rfl) (fun _ _ _ => rfl) body

/-- A request read from a frame has the frame's kind. -/
theorem requestKind_of_parse {kind : Byte} {body : List Byte} {r : Request} (h : parseRequest kind body = .request r) :
    requestKind r = kind := by
  by_cases assigned : kind.toNat ∈ assignedKinds
  · obtain bad | ⟨q, read, same, -⟩ := parseRequest_readsBack assigned body
    · rw [bad] at h
      cases h
    · rw [read] at h
      cases h
      exact same
  · rw [parseRequest_unassigned assigned] at h
    cases h

/-! ### Frames not executed -/

/-- A request command is a good frame of its request (log 18). -/
theorem exec_requestOf {c : Instr} {tag : Byte} {r : Request} (request : requestOf c = some (tag, r)) (s : State) :
    exec c s = requestEvent tag r s := by
  cases c <;> cases request <;> rfl

/-- A good frame that is not executed leaves the state as it is, or is counted (R165, R176). -/
theorem event_acceptFrame_pending {s : State} (running : Running s) (pending : s.port.resetPending ≠ none) (kind tag : Byte)
    (run : State → Reply × State) : event (acceptFrame kind tag run) s = .next s := by
  rw [event_running running, acceptFrame, if_pos (Option.isSome_iff_ne_none.mpr pending), settle_of_resetPending pending]

theorem event_acceptFrame_full {s : State} (running : Running s) (idle : s.port.resetPending = none)
    (full : 4 ≤ s.port.out.length) (kind tag : Byte) (run : State → Reply × State) :
    event (acceptFrame kind tag run) s =
      .next { s with counts := { s.counts with overruns := countInc s.counts.overruns } } := by
  have waiting : s.port.out ≠ [] := fun h => by simp [h] at full
  rw [event_running running, acceptFrame, if_neg (by simp [idle]), if_pos (show Config.outputCapacity ≤ _ from full)]
  exact congrArg _ (settle_of_out waiting)

/-- A body of the wrong length for its kind (R166). -/
theorem runFrame_badLength {kind : Byte} {body : List Byte} (assigned : kind.toNat ∈ assignedKinds)
    (wrong : ∀ r, requestKind r = kind → requestBody r ≠ body) (s : State) : runFrame kind body s = (refusal .badLength, s) := by
  obtain bad | ⟨r, -, same, read⟩ := parseRequest_readsBack assigned body
  · rw [runFrame, bad]
  · exact absurd read (wrong r same)

theorem exec_badLength {s : State} (accepts : Accepts s) {kind : Byte} {body : List Byte}
    (assigned : kind.toNat ∈ assignedKinds) (wrong : ∀ r, requestKind r = kind → requestBody r ≠ body) (tag : Byte) :
    exec (.unknownKind kind tag body) s = .next (s.enqueue ⟨kind + 0x80, tag, [0x02]⟩) := by
  rw [exec_unknownKind_eq accepts (runFrame_badLength assigned wrong s), replyKind, if_pos ((kindAssigned_iff kind).mpr assigned)]
  rfl

/-- The kinds whose bodies have one length, with that length, and those whose bodies have a least one (11 section 11.3). -/
def fixedLengths : List (Nat × Nat) :=
  [(0x01, 0), (0x02, 0), (0x03, 15), (0x08, 1), (0x09, 20), (0x0A, 2), (0x0C, 0), (0x0D, 16), (0x10, 4), (0x11, 0), (0x18, 2),
    (0x19, 1), (0x1A, 1), (0x1B, 2), (0x1C, 1), (0x20, 16), (0x28, 3), (0x29, 0), (0x2A, 0), (0x30, 1), (0x31, 4), (0x38, 1)]

def leastLengths : List (Nat × Nat) := [(0x0B, 2), (0x21, 4), (0x3F, 2)]

theorem assigned_of_length {k length : Nat} (listed : (k, length) ∈ fixedLengths ++ leastLengths) : k ∈ assignedKinds := by
  have all : ∀ p ∈ fixedLengths ++ leastLengths, p.1 ∈ assignedKinds := by decide
  exact all _ listed

theorem requestBody_length_fixed {r : Request} {fixed : Nat} (listed : ((requestKind r).toNat, fixed) ∈ fixedLengths) :
    (requestBody r).length = fixed := by
  cases r <;> simp [requestKind, fixedLengths] at listed <;> simp [requestBody, byte2, byte4, listed]

theorem requestBody_length_least {r : Request} {least : Nat} (listed : ((requestKind r).toNat, least) ∈ leastLengths) :
    least ≤ (requestBody r).length := by
  cases r <;> simp [requestKind, leastLengths] at listed <;> simp [requestBody, byte2, listed]

/-- Settles O24: the two reasons not to execute a good frame, and the two refusals before its fields are judged. -/
theorem framesRefusedOrNotExecuted : Obligations.FramesRefusedOrNotExecuted := by
  refine ⟨fun c s running good => ?_, fun kind tag body s accepts => ⟨fun unassigned => ?_, fun fixed listed wrong => ?_,
    fun least listed short => ?_⟩⟩
  · obtain ⟨kind, tag, run, frame⟩ : ∃ kind tag run, exec c s = event (acceptFrame kind tag run) s := by
      obtain request | ⟨kind, tag, body, rfl⟩ := good
      · obtain ⟨⟨tag, r⟩, request⟩ := Option.isSome_iff_exists.mp request
        exact ⟨_, _, _, exec_requestOf request s⟩
      · exact ⟨_, _, _, rfl⟩
    rw [frame]
    exact ⟨fun pending => event_acceptFrame_pending running pending .., fun idle full =>
      event_acceptFrame_full running idle full ..⟩
  · have unread : runFrame kind body s = (refusal .badKind, s) := by rw [runFrame, parseRequest_unassigned unassigned]
    rw [exec_unknownKind_eq accepts unread, replyKind, if_neg (mt (kindAssigned_iff kind).mp unassigned)]
    rfl
  · refine exec_badLength accepts (assigned_of_length (List.mem_append_left _ listed)) (fun r same read => ?_) tag
    subst same
    exact wrong (read ▸ requestBody_length_fixed listed)
  · refine exec_badLength accepts (assigned_of_length (List.mem_append_right _ listed)) (fun r same read => ?_) tag
    subst same
    exact absurd short (Nat.not_lt.mpr (read ▸ requestBody_length_least listed))

end Sys2Proof.Machine
end

section
/-! PROOFS. CHAIN: the sub-requests that a body holds, and their run (R173). -/

namespace Sys2Proof.Machine

/-! ### The sub-requests of a body -/

/-- A sub-request in a CHAIN's body: its kind, its body's length, its body. -/
def subBytes (x : Byte × List Byte) : List Byte :=
  x.1 :: BitVec.ofNat 8 (x.2.length / 256) :: BitVec.ofNat 8 x.2.length :: x.2

theorem word2_toNat (high low : Byte) : (word2 high low).toNat = 256 * high.toNat + low.toNat := by
  rw [word2, append_toNat]
  omega

theorem word2_length {n : Nat} (bound : n < 65536) : (word2 (BitVec.ofNat 8 (n / 256)) (BitVec.ofNat 8 n)).toNat = n := by
  rw [word2_toNat, BitVec.toNat_ofNat, BitVec.toNat_ofNat]
  omega

theorem parseSubs_cons (count : Nat) (k high low : Byte) (rest : List Byte) :
    parseSubs (count + 1) (k :: high :: low :: rest) = if (word2 high low).toNat ≤ rest.length then
      (parseSubs count (rest.drop (word2 high low).toNat)).map (fun subs => (k, rest.take (word2 high low).toNat) :: subs)
    else none := rfl

/-- Sub-requests one after another are read back. -/
theorem parseSubs_subBytes {subs : List (Byte × List Byte)} (short : ∀ x ∈ subs, x.2.length < 65536) :
    parseSubs subs.length (subs.flatMap subBytes) = some subs := by
  induction subs with
  | nil => rfl
  | cons x subs ih =>
    obtain ⟨kind, body⟩ := x
    have length := word2_length (short _ List.mem_cons_self)
    have rest := ih fun y hy => short y (List.mem_cons_of_mem _ hy)
    rw [List.flatMap_cons, List.length_cons, subBytes, List.cons_append, List.cons_append, List.cons_append, parseSubs_cons,
      length, if_pos (by simp), List.drop_left, List.take_left, rest]
    rfl

/-- What is read makes up the body exactly. -/
theorem subBytes_of_parseSubs {count : Nat} {body : List Byte} {subs : List (Byte × List Byte)}
    (read : parseSubs count body = some subs) :
    subs.length = count ∧ (∀ x ∈ subs, x.2.length < 65536) ∧ body = subs.flatMap subBytes := by
  induction count generalizing body subs with
  | zero =>
    cases body with
    | nil => cases read; simp
    | cons => cases read
  | succ count ih =>
    match body, read with
    | k :: high :: low :: rest, read =>
      rw [parseSubs_cons] at read
      split at read
      next fits =>
        obtain ⟨tail, parsed, rfl⟩ := Option.map_eq_some_iff.mp read
        obtain ⟨length, short, parts⟩ := ih parsed
        have taken : (rest.take (word2 high low).toNat).length = (word2 high low).toNat := List.length_take_of_le fits
        refine ⟨by rw [List.length_cons, length], ?_, ?_⟩
        · rintro x (_ | ⟨_, hx⟩)
          · rw [taken]
            exact (word2 high low).isLt
          · exact short x hx
        · have bytes : [BitVec.ofNat 8 ((word2 high low).toNat / 256), BitVec.ofNat 8 (word2 high low).toNat] = [high, low] := by
            rw [← nat2_eq, nat2, BitVec.ofNat_toNat, BitVec.setWidth_eq, byte2_word2]
          obtain ⟨first, second⟩ : _ ∧ _ := List.cons.inj bytes
          rw [List.flatMap_cons, ← parts, subBytes, taken, first, List.head_eq_of_cons_eq second, List.cons_append, List.cons_append,
            List.cons_append, List.take_append_drop]
      next => cases read

/-! ### The run -/

theorem yesNo_iff (b : Byte) : yesNo b = true ↔ b.toNat ≤ 1 := by
  revert b
  decide

/-- A sub-request is executed as a frame of its own, but a RESET or CHAIN. -/
theorem runSub_eq {kind : Byte} (plain : ¬(kind = 0x38 ∨ kind = 0x3F)) (body : List Byte) (s : State) :
    runSub kind body s = runFrame kind body s := by
  rw [runSub, if_neg plain, runFrame]
  cases parsed : parseRequest kind body with
  | badKind | badLength => rfl
  | request r =>
    have same := requestKind_of_parse parsed
    cases r with
    | reset => exact absurd (.inl same.symm) plain
    | chain => exact absurd (.inr same.symm) plain
    | _ => rfl

theorem subReply_eq (kind : Byte) (r : Reply) : subReply kind r = (if kindAssigned kind then kind + 0x80 else 0xFF) ::
    BitVec.ofNat 8 ((r.contents.length + 1) / 256) :: BitVec.ofNat 8 (r.contents.length + 1) :: r.result.code ::
    r.contents := by
  rw [subReply, nat2_eq]
  rfl

theorem runSubs_cons (stop : Bool) (kind : Byte) (body : List Byte) (rest : List (Byte × List Byte)) (s : State) :
    runSubs stop false ((kind, body) :: rest) s = (subReply kind (runSub kind body s).1 ++
      (runSubs stop (stop && decide ((runSub kind body s).1.result ≠ .ok)) rest (runSub kind body s).2).1,
      (runSubs stop (stop && decide ((runSub kind body s).1.result ≠ .ok)) rest (runSub kind body s).2).2) := rfl

theorem reqChain_eq {stop count : Byte} (flag : stop.toNat ≤ 1) (range : 1 ≤ count.toNat ∧ count.toNat ≤ 8)
    (body : List Byte) (s : State) : reqChain stop count body s = match parseSubs count.toNat body with
      | none => (refusal .badLength, s)
      | some subs => (okWith (runSubs (stop == 1) false subs s).1, (runSubs (stop == 1) false subs s).2) :=
  withFields_of_none (by rw [(yesNo_iff stop).mpr flag, decide_eq_true range]; rfl) ..

/-- Settles O42: a body is cut into its sub-requests in one way at most, and they run in order. -/
theorem chainRunsSubRequests : Obligations.ChainRunsSubRequests := by
  refine ⟨fun tag stop count body s accepts => ?_, fun stop stopped kind b rest s => ?_⟩
  · have answer {a : Reply} {t : State} (ran : reqChain stop count body s = (a, t)) :
        exec (.chain tag stop count body) s = .next (t.enqueue ⟨0xBF, tag, a.body⟩) :=
      requestEvent_eq accepts tag (r := .chain stop count body) ran
    refine ⟨fun high => answer (a := badField 1) ?_, fun flag range => answer (a := badField 2) ?_, fun flag low high =>
      ⟨fun subs length short parts => ?_, fun none => answer (a := refusal .badLength) ?_⟩⟩
    · exact withFields_of_some (by rw [yesNo_of_high high]; rfl) ..
    · have bad : ¬(1 ≤ count.toNat ∧ count.toNat ≤ 8) := by omega
      exact withFields_of_some (by rw [(yesNo_iff stop).mpr flag, decide_eq_false bad]; rfl) ..
    · have read : parseSubs count.toNat body = some subs := by
        rw [parts, ← length]
        exact parseSubs_subBytes short
      intro r
      refine answer (a := okWith r.1) ?_
      rw [reqChain_eq flag ⟨low, high⟩, read]
      rfl
    · rw [reqChain_eq flag ⟨low, high⟩]
      cases read : parseSubs count.toNat body with
      | none => rfl
      | some subs =>
        obtain ⟨length, short, parts⟩ := subBytes_of_parseSubs read
        exact absurd parts (none subs length short)
  · intro part alone
    have parts (r : Reply) : subReply kind r = part r := subReply_eq kind r
    have sub : runSub kind b s = alone := by
      by_cases inside : kind = 0x38 ∨ kind = 0x3F
      · rw [runSub, if_pos inside]
        exact (if_pos inside).symm
      · rw [runSub_eq inside]
        exact (if_neg inside).symm
    refine ⟨?_, ?_, ?_⟩
    · cases stopped <;> rfl
    · rintro rfl
      rw [← parts]
      rfl
    · rintro rfl next
      rw [← parts, runSubs_cons, sub]

end Sys2Proof.Machine
end

section
/-! PROOFS. The receive assembler: each byte by the frame collected so far, and the bytes of a request's frame (R162 to R165,
R176, log 18). -/

namespace Sys2Proof.Machine

/-! ### A byte at the assembler -/

theorem exec_byte {s : State} (running : Running s) (b : Byte) (err : Bool) :
    exec (.controlByteArrival b err) s = .next (settle (byteArrival b err s)) := by
  show event _ s = _
  rw [event_running running]

theorem byteArrival_pending {s : State} (pending : s.port.resetPending ≠ none) (b : Byte) (err : Bool) :
    byteArrival b err s = s := if_pos (Option.isSome_iff_ne_none.mpr pending)

/-- A byte with no frame begun, and a byte inside a frame. -/
theorem byteArrival_outside {s : State} (idle : s.port.resetPending = none) (outside : s.port.frame = none) (b : Byte)
    (err : Bool) : byteArrival b err s = if b = 0xA5 ∧ err = false then storeByte [b] s else s := by
  rw [byteArrival, if_neg (by simp [idle]), outside]

theorem byteArrival_inside {s : State} (idle : s.port.resetPending = none) {before : List Byte}
    (inside : s.port.frame = some before) (b : Byte) (err : Bool) :
    byteArrival b err s = if err then abandonFrame s else frameByte (before ++ [b]) s := by
  rw [byteArrival, if_neg (by simp [idle]), inside]

theorem frameLength_eq (bytes : List Byte) :
    frameLength bytes = 256 * (bytes.getD 1 0).toNat + (bytes.getD 2 0).toNat := word2_toNat ..

/-- A frame is judged at its third byte and at its last; any other byte is stored (R162). -/
theorem frameByte_stored {bytes : List Byte} (third : bytes.length = 3 → frameLength bytes ≤ 1024)
    (last : 3 < bytes.length → bytes.length ≠ 7 + frameLength bytes) (s : State) : frameByte bytes s = storeByte bytes s := by
  have short : ¬(bytes.length = 3 ∧ Config.maxBody < frameLength bytes) :=
    fun h => absurd h.2 (Nat.not_lt.mpr (third h.1))
  rw [frameByte, if_neg short, if_neg fun h => last h.1 h.2]

theorem frameByte_tooLong {bytes : List Byte} (third : bytes.length = 3) (long : 1024 < frameLength bytes) (s : State) :
    frameByte bytes s = abandonFrame s := if_pos ⟨third, long⟩

theorem frameByte_complete {bytes : List Byte} (complete : bytes.length = 7 + frameLength bytes) (s : State) :
    frameByte bytes s = completeFrame bytes s := by
  rw [frameByte, if_neg (by omega), if_pos ⟨by omega, complete⟩]

/-- The whole frame is executed or dropped by its check (R162, R164, R165). -/
theorem completeFrame_good {bytes : List Byte} {len : Nat} (length : frameLength bytes = len)
    (good : crc16 ((bytes.drop 1).take (4 + len)) = word2 (bytes.getD (5 + len) 0) (bytes.getD (6 + len) 0)) (s : State) :
    completeFrame bytes s =
      acceptFrame (bytes.getD 3 0) (bytes.getD 4 0) (runFrame (bytes.getD 3 0) ((bytes.drop 5).take len)) (frameDone s) := by
  subst length
  exact if_pos good

theorem completeFrame_bad {bytes : List Byte} {len : Nat} (length : frameLength bytes = len)
    (bad : crc16 ((bytes.drop 1).take (4 + len)) ≠ word2 (bytes.getD (5 + len) 0) (bytes.getD (6 + len) 0)) (s : State) :
    completeFrame bytes s = abandonFrame s := by
  subst length
  exact if_neg bad

theorem exec_interByteTimeout {s : State} (running : Running s) :
    exec .interByteTimeout s = .next (settle (interByteTimeout s)) := by
  show event _ s = _
  rw [event_running running]

/-- Settles O21: the assembler's cases are those of `byteArrival`, `frameByte` and `completeFrame`. -/
theorem assemblerTakesBytes : Obligations.AssemblerTakesBytes := by
  refine ⟨fun s b err running => ?_, fun s running => ⟨fun none => ?_, fun x timeout early => ?_, fun x timeout due => ?_⟩⟩
  · intro abandoned stored
    refine ⟨fun pending => ?_, fun idle outside => ⟨fun begins => ?_, fun other => ?_⟩, fun before idle inside nonempty => ?_⟩
    · rw [exec_byte running, byteArrival_pending pending]
    · rw [exec_byte running, byteArrival_outside idle outside, if_pos begins]
      rfl
    · have stays : ¬(b = 0xA5 ∧ err = false) := fun h => other.elim (fun g => g h.1) (fun g => by simp [g] at h)
      rw [exec_byte running, byteArrival_outside idle outside, if_neg stays]
    · intro bytes len check good
      have length : frameLength bytes = len := frameLength_eq bytes
      refine ⟨fun bad => ?_, fun clean => ?_⟩
      · rw [exec_byte running, byteArrival_inside idle inside, if_pos bad]
        rfl
      · have taken : exec (.controlByteArrival b err) s = .next (settle (frameByte bytes s)) := by
          rw [exec_byte running, byteArrival_inside idle inside, if_neg (by simp [clean])]
        have stores (third : bytes.length = 3 → len ≤ 1024) (last : 3 < bytes.length → bytes.length ≠ 7 + len) :
            exec (.controlByteArrival b err) s = .next (settle (stored bytes)) := by
          rw [taken, frameByte_stored (length ▸ third) (length ▸ last)]
          rfl
        refine ⟨fun short => stores (by omega) (by omega), fun third fits => stores (fun _ => fits) (by omega),
          fun third long => ?_, fun later unfinished => stores (by omega) (fun _ => unfinished), fun complete fits bad => ?_,
          fun complete fits isGood => ?_⟩
        · rw [taken, frameByte_tooLong third (length ▸ long)]
          rfl
        · rw [taken, frameByte_complete (length ▸ complete), completeFrame_bad length bad]
          rfl
        · rw [taken, frameByte_complete (length ▸ complete), completeFrame_good length isGood]
          exact (event_running (s := frameDone s) running _).symm
  · rw [exec_interByteTimeout running, interByteTimeout, none]
  · have later : x.due s.tb.time = false := Bool.eq_false_iff.mpr (mt (due_iff x s.tb.time).mp (by omega))
    rw [exec_interByteTimeout running, interByteTimeout, timeout]
    simp [later]
  · rw [exec_interByteTimeout running, interByteTimeout, timeout]
    dsimp only
    rw [if_pos ((due_iff x s.tb.time).mpr due)]
    rfl

/-! ### The bytes of a request's frame -/

/-- A frame on its way: its first bytes are stored, one after another. -/
theorem storeByte_storeByte (before bytes : List Byte) (s : State) : storeByte bytes (storeByte before s) = storeByte bytes s :=
  rfl

theorem settle_storeByte {s : State} (sent : NoticesSent s) (bytes : List Byte) :
    settle (storeByte bytes s) = storeByte bytes s := by
  by_cases out : s.port.out = []
  · by_cases idle : s.port.resetPending = none
    · exact settle_of_noNotice (sent out idle)
    · exact settle_of_resetPending idle
  · exact settle_of_out out

theorem arrive_cons {b : Byte} {rest : List Byte} {s t : State} (taken : exec (.controlByteArrival b false) s = .next t) :
    arrive (b :: rest) s = arrive rest t := by
  rw [arrive, taken]

/-- The fields of a frame's bytes (11 section 11.3). -/
theorem frame_bytes_cons (f : Frame) : f.bytes = 0xA5 :: BitVec.ofNat 8 (f.body.length / 256) :: BitVec.ofNat 8 f.body.length ::
    f.kind :: f.tag :: (f.body ++ byte2 (crc16 f.covered)) := by
  rw [frame_bytes_eq, frame_covered_eq]
  rfl

theorem frame_bytes_length (f : Frame) : f.bytes.length = 7 + f.body.length := by
  rw [frame_bytes_cons]
  simp [byte2]
  omega

/-- The length field is read from any three bytes or more of a frame. -/
theorem frameLength_of_initial {f : Frame} (fits : f.body.length < 65536) {before rest : List Byte} (parts : before ++ rest = f.bytes)
    (third : 3 ≤ before.length) : frameLength before = f.body.length := by
  match before, third with
  | a :: b :: c :: before, _ =>
    rw [frame_bytes_cons] at parts
    obtain ⟨-, parts⟩ := List.cons.inj parts
    obtain ⟨high, parts⟩ := List.cons.inj parts
    obtain ⟨low, -⟩ := List.cons.inj parts
    show (word2 b c).toNat = _
    rw [high, low, word2_length fits]

theorem completeFrame_bytes (f : Frame) (fits : f.body.length < 65536) (s : State) :
    completeFrame f.bytes s = acceptFrame f.kind f.tag (runFrame f.kind f.body) (frameDone s) := by
  have length : frameLength f.bytes = f.body.length :=
    frameLength_of_initial fits (List.append_nil _) (by rw [frame_bytes_length]; omega)
  have coveredLength : f.covered.length = 4 + f.body.length := by
    rw [frame_covered_eq, List.length_append]
    rfl
  have tail : f.bytes = 0xA5 :: (f.covered ++ byte2 (crc16 f.covered)) := rfl
  have covered : (f.bytes.drop 1).take (4 + f.body.length) = f.covered := by
    rw [tail, List.drop_one, List.tail_cons, ← coveredLength, List.take_left]
  have check : word2 (f.bytes.getD (5 + f.body.length) 0) (f.bytes.getD (6 + f.body.length) 0) = crc16 f.covered := by
    have at' (k : Nat) : f.bytes.getD (5 + f.body.length + k) 0 = (byte2 (crc16 f.covered)).getD k 0 := by
      rw [tail, show 5 + f.body.length + k = (f.covered.length + k) + 1 by omega, List.getD_cons_succ,
        List.getD_append_right _ _ _ _ (by omega), Nat.add_sub_cancel_left]
    rw [show 6 + f.body.length = 5 + f.body.length + 1 by omega, at' 1, ← Nat.add_zero (5 + f.body.length), at' 0]
    exact word2_byte2 _
  have body : (f.bytes.drop 5).take f.body.length = f.body := by
    rw [frame_bytes_cons]
    exact List.take_left
  rw [completeFrame_good length (by rw [covered, check]), body, frame_bytes_cons]
  rfl

theorem arrive_frame {f : Frame} (fits : f.body.length ≤ 1024) {s : State} (running : Running s)
    (idle : s.port.resetPending = none) (sent : NoticesSent s) (rest : List Byte) {before : List Byte} (nonempty : before ≠ [])
    (more : rest ≠ []) (parts : before ++ rest = f.bytes) :
    arrive rest (storeByte before s) = event (acceptFrame f.kind f.tag (runFrame f.kind f.body)) (frameDone s) := by
  induction rest generalizing before with
  | nil => exact absurd rfl more
  | cons b rest ih =>
    have taken : exec (.controlByteArrival b false) (storeByte before s) =
        .next (settle (frameByte (before ++ [b]) (storeByte before s))) := by
      rw [exec_byte (s := storeByte before s) running, byteArrival_inside (s := storeByte before s) idle rfl, if_neg (by simp)]
    have onward : (before ++ [b]) ++ rest = f.bytes := by rw [← parts, List.append_assoc]; rfl
    have total := congrArg List.length onward
    rw [List.length_append, frame_bytes_length] at total
    have length (third : 3 ≤ (before ++ [b]).length) : frameLength (before ++ [b]) = f.body.length :=
      frameLength_of_initial (by omega) onward third
    cases rest with
    | nil =>
      rw [List.length_nil] at total
      rw [arrive_cons taken, frameByte_complete (by rw [length (by omega)]; omega)]
      rw [List.append_nil] at onward
      rw [onward, completeFrame_bytes f (by omega)]
      exact (event_running (s := frameDone s) running _).symm
    | cons c rest =>
      rw [List.length_cons] at total
      have stored : exec (.controlByteArrival b false) (storeByte before s) = .next (storeByte (before ++ [b]) s) := by
        rw [taken, frameByte_stored (fun third => by rw [length (by omega)]; exact fits)
          (fun later => by rw [length (by omega)]; omega), storeByte_storeByte, settle_storeByte sent]
      rw [arrive_cons stored, ih (by simp) (by simp) onward]

theorem requestBody_length {c : Instr} {tag : Byte} {r : Request} (request : requestOf c = some (tag, r))
    (wellFormed : c.wellFormed = true) : (requestBody r).length ≤ 1024 := by
  cases c <;> cases request <;> simp [Instr.wellFormed] at wellFormed <;> simp [requestBody, byte2, byte4]
  all_goals omega

/-- Settles O23: the bytes are stored up to the last, with which the frame is executed. -/
theorem frameBytesRunRequest : Obligations.FrameBytesRunRequest := by
  intro c tag r s request wellFormed running idle frame timeout sent
  have parsed : runFrame (requestKind r) (requestBody r) = runRequest r := by
    funext t
    rw [runFrame, requestBodyReadsBack]
  have outside : frameDone s = s := by
    rw [frameDone, ← frame, ← timeout]
    rfl
  have begun : exec (.controlByteArrival 0xA5 false) s = .next (storeByte [0xA5] s) := by
    rw [exec_byte running, byteArrival_outside idle frame, if_pos ⟨rfl, rfl⟩, settle_storeByte sent]
  have bytes := frame_bytes_cons ⟨requestKind r, tag, requestBody r⟩
  rw [bytes, arrive_cons begun, arrive_frame (f := ⟨requestKind r, tag, requestBody r⟩) (requestBody_length request wellFormed)
    running idle sent _ (by simp) (by simp) bytes.symm, parsed, outside, exec_requestOf request]
  rfl

end Sys2Proof.Machine
end

section
/-! PROOFS. INJECT HEADER and the admission of a header: the early discards, the placement checks, and the commit (R93 to R95,
R115 to R126, R171). -/

namespace Sys2Proof.Machine

/-! ### What the end of a batch leaves -/

theorem endActive_frame (n : Chan) (o : LaunchOutcome) (s : State) : CutFrame s (endActive n o s) := by
  have retired : CutFrame s (retireActive n o s) :=
    retireActive_induction (.refl _) fun _ _ => by constructor <;> simp
  refine retired.trans ?_
  unfold endActive
  constructor <;> simp [enterIdle_eq]

theorem redecide_frame (n : Chan) (s : State) : CutFrame s (redecide n s) := by
  unfold redecide
  split
  · exact endActive_frame ..
  · exact .refl s

theorem endAssembly_frame (k : Stream) (c : Context) (o : LaunchOutcome) (s : State) : CutFrame s (endAssembly k c o s) := by
  refine CutFrame.trans ?_ (redecide_frame ..)
  cases contextEntry c s <;> constructor <;> simp

theorem accepts_endAssembly {k : Stream} {c : Context} {o : LaunchOutcome} {s : State} (accepts : Accepts s)
    (opened : s.context k = some c) : Accepts (endAssembly k c o s) := by
  have frame := endAssembly_frame k c o s
  obtain ⟨running, idle, room⟩ := accepts
  exact ⟨by rw [frame.pins]; exact running, frame.resetPending.trans idle,
    by rw [(endAssembly_works o opened).frame.1]; exact room⟩

/-! ### INJECT HEADER -/

/-- On a FREE context the header goes to admission, and its cause is the reply (R93, R171). -/
theorem exec_injectHeader {s t : State} (accepts : Accepts s) (free : s.context 8 = none) {h : Header} {a : Admit}
    (admitted : admitHeader 8 h s = (a, t)) (tag : Byte) :
    exec (.injectHeader tag h) s = .next (t.enqueue ⟨0xA0, tag, (admitReply a).body⟩) := by
  refine requestEvent_eq accepts tag (r := .injectHeader h) ?_
  show reqInjectHeader h s = _
  rw [reqInjectHeader, headerSegment, free]
  dsimp only
  rw [admitted]

/-- On an OPEN context the batch is truncated first (R94). -/
theorem exec_injectHeader_open {s : State} (accepts : Accepts s) {c : Context} (opened : s.context 8 = some c) (tag : Byte)
    (h : Header) : exec (.injectHeader tag h) s = exec (.injectHeader tag h) (endAssembly 8 c .truncated s) := by
  have run : reqInjectHeader h s = reqInjectHeader h (endAssembly 8 c .truncated s) := by
    rw [reqInjectHeader, reqInjectHeader, headerSegment, headerSegment, opened, endAssembly_context]
  show requestEvent tag _ _ = requestEvent tag _ _
  rw [requestEvent_of_accepts accepts, requestEvent_of_accepts (accepts_endAssembly accepts opened)]
  show Host.Outcome.next (State.enqueue (reqInjectHeader h s).2 ⟨_, tag, (reqInjectHeader h s).1.body⟩) = _
  rw [run]
  rfl

/-! ### Steps 1 to 10 -/

theorem headerInRange_iff (h : Header) : headerInRange h = true ↔ h.o.toNat < 10000000 ∧ 1 ≤ h.n.toNat ∧ h.n.toNat ≤ 8192 ∧
    h.rate.toNat ≤ 1 ∧ h.priority.toNat ≤ 3 ∧ h.logical.toNat ≤ 15 := by
  simp only [headerInRange, Bool.and_eq_true, decide_eq_true_eq, and_assoc]
  omega

theorem earlyCheck_power {h : Header} {s : State} (warned : s.pins.pwrwarn = true) : earlyCheck h s = some .power :=
  if_pos warned

theorem earlyCheck_malformed {h : Header} {s : State} (clear : s.pins.pwrwarn = false) (bad : headerInRange h ≠ true) :
    earlyCheck h s = some .malformed := by
  rw [earlyCheck, if_neg (by simp [clear]), if_pos (Bool.eq_false_iff.mpr bad)]

/-- Steps 3 to 5 of a header in range, the power being good (R116, R117). -/
theorem earlyCheck_sound {h : Header} {s : State} (clear : s.pins.pwrwarn = false) (sound : headerInRange h = true) :
    earlyCheck h s = if s.dir.hold then some .held else if s.tb.valid = false then some .timebase
      else if s.zones.ready = false then some .mapNotReady else none := by
  rw [earlyCheck, if_neg (by simp [clear]), if_neg (by simp [sound])]

theorem admitHeader_early {h : Header} {s : State} {o : LaunchOutcome} (early : earlyCheck h s = some o) (src : Stream) :
    admitHeader src h s = (.discarded o, s.writeRecord (discardRecord src h o none none)) := by
  rw [admitHeader, early]

theorem admitHeader_read {h : Header} {s : State} (passed : earlyCheck h s = none) (src : Stream) :
    admitHeader src h s = admitZone src h (readZone h.zone s).1 (readZone h.zone s).2 := by
  rw [admitHeader, passed]

theorem readZone_value {i : Byte} {s : State} {v : ZoneValue} {corrected : Bool} (test : (s.zone i).test = some (v, corrected)) :
    (readZone i s).1 = some v := by
  cases corrected
  · rw [readZone_agrees test]
  · rw [readZone_corrected test]

theorem readZone_chan (i : Byte) (s : State) (n : Chan) : (readZone i s).2.chan n = s.chan n := by
  obtain ⟨-, -, -, channels, -⟩ := readZone_keeps i s
  exact State.chan_congr channels n

/-- The Channel Map entry of a logical channel in range (R32). -/
theorem route_eq {s : State} {logical : Byte} {l : Fin 16} (index : l.val = logical.toNat) :
    s.route logical = s.channelMap[l] := by
  have inside : logical.toNat % 16 = l.val := by omega
  simp only [State.route, inside, Fin.getElem_fin]

theorem tagHeld_iff (s : State) (tag : BitVec 16) :
    s.tagHeld tag = true ↔ ∃ m : Chan, ∃ e ∈ (s.chan m).queue, e.tag = tag := by
  simp [State.tagHeld, mem_allChans]

theorem routeCheck_congr {s t : State} (channels : ∀ m, t.chan m = s.chan m) (h : Header) (n : Chan) :
    routeCheck h n t = routeCheck h n s := by
  have held : t.tagHeld h.tag = s.tagHeld h.tag := by simp only [State.tagHeld, channels]
  rw [routeCheck, routeCheck, channels, held]

/-- A valid zone and a carried channel lead to the channel's own checks. -/
theorem admitHeader_routed {h : Header} {s : State} {v : ZoneValue} {corrected : Bool} {l : Fin 16} {n : Chan}
    (passed : earlyCheck h s = none) (test : (s.zone h.zone).test = some (v, corrected)) (valid : v.valid = true)
    (index : l.val = h.logical.toNat) (carried : s.channelMap[l] = some n) (src : Stream) :
    admitHeader src h s = admitOn src h n v.d (readZone h.zone s).2 := by
  obtain ⟨-, -, map, -⟩ := readZone_keeps h.zone s
  rw [admitHeader_read passed, readZone_value test, admitZone]
  dsimp only
  rw [if_neg (by simp [valid]), route_eq index, map, carried]

theorem admitHeader_uncarried {h : Header} {s : State} {v : ZoneValue} {corrected : Bool} {l : Fin 16}
    (passed : earlyCheck h s = none) (test : (s.zone h.zone).test = some (v, corrected)) (valid : v.valid = true)
    (index : l.val = h.logical.toNat) (none : s.channelMap[l] = none) (src : Stream) :
    admitHeader src h s = (.notCarried, { (readZone h.zone s).2 with counts := { (readZone h.zone s).2.counts with
      notCarried := countInc (readZone h.zone s).2.counts.notCarried } }) := by
  obtain ⟨-, -, map, -⟩ := readZone_keeps h.zone s
  rw [admitHeader_read passed, readZone_value test, admitZone]
  dsimp only
  rw [if_neg (by simp [valid]), route_eq index, map, none]

theorem admitOn_routeCheck {h : Header} {n : Chan} {s : State} {o : LaunchOutcome} (route : routeCheck h n s = some o)
    (src : Stream) (d : Int) :
    admitOn src h n d s = (.discarded o, s.writeRecord (discardRecord src h o (some n) none)) := by
  rw [admitOn, route]

/-- Settles O36: the first failing check of steps 1 to 10 gives the cause. -/
theorem headerDiscardedEarly : Obligations.HeaderDiscardedEarly := by
  intro tag h s accepts run discard notCarried sound read
  have discards {u : State} {o : LaunchOutcome} {n : Option Chan}
      (admitted : ∀ src, admitHeader src h s = (.discarded o, u.writeRecord (discardRecord src h o n none))) :
      discard u o (BitVec.ofNat 8 o.code.val) n :=
    ⟨fun free => exec_injectHeader accepts free (admitted 8) tag, admitted⟩
  refine ⟨fun c opened => exec_injectHeader_open accepts opened tag h, fun warned => ?_, fun clear bad => ?_,
    fun clear inRange held => ?_, fun clear inRange free => ⟨fun invalid => ?_, fun valid unready => ?_, fun valid ready => ?_⟩⟩
  · exact discards (admitHeader_early (earlyCheck_power warned))
  · exact discards (admitHeader_early (earlyCheck_malformed clear (mt (headerInRange_iff h).mp bad)))
  all_goals have early := earlyCheck_sound clear ((headerInRange_iff h).mpr inRange)
  · rw [if_pos held] at early
    exact discards (admitHeader_early early)
  all_goals rw [if_neg (by simp [free])] at early
  · rw [if_pos invalid] at early
    exact discards (admitHeader_early early)
  all_goals rw [if_neg (by simp [valid])] at early
  · rw [if_pos unready] at early
    exact discards (admitHeader_early early)
  rw [if_neg (by simp [ready])] at early
  refine ⟨fun lost => ?_, fun v corrected test => ⟨fun invalid => ?_, fun isValid low l index => ⟨fun none => ?_, fun n some =>
    ?_⟩⟩⟩
  · refine discards (o := .mapFault) fun src => ?_
    have value : (readZone h.zone s).1 = none := by rw [readZone_lost lost]
    rw [admitHeader_read early, value]
    rfl
  · refine discards (o := .zoneInvalid) fun src => ?_
    rw [admitHeader_read early, readZone_value test, admitZone]
    exact if_pos invalid
  · have counted : read.counts.notCarried = s.counts.notCarried := by
      obtain ⟨-, -, -, -, -, counts, -⟩ := readZone_leaves h.zone s
      rw [counts]
    have refused (src : Stream) := admitHeader_uncarried early test isValid index none src
    rw [countInc_eq, counted] at refused
    exact ⟨fun free => exec_injectHeader accepts free (refused 8) tag, refused⟩
  · intro c rate held
    have routed := admitHeader_routed early test isValid index some
    have same : routeCheck h n read = routeCheck h n s := routeCheck_congr (readZone_chan h.zone s) h n
    have discardsRoute {o : LaunchOutcome} (route : routeCheck h n s = Option.some o) :
        discard read o (BitVec.ofNat 8 o.code.val) (Option.some n) :=
      discards fun src => (routed src).trans (admitOn_routeCheck (same.trans route) src v.d)
    refine ⟨fun disabled => discardsRoute (if_pos disabled), fun enabled differs => discardsRoute ?_,
      fun enabled agrees isHeld => discardsRoute ?_⟩
    · rw [routeCheck, if_neg (by simp [show (s.chan n).settings.enabled = true from enabled])]
      exact if_pos differs
    · rw [routeCheck, if_neg (by simp [show (s.chan n).settings.enabled = true from enabled]),
        if_neg (show ¬rateOf h.rate ≠ (s.chan n).settings.rate from not_not.mpr agrees), if_pos ((tagHeld_iff s h.tag).mpr isHeld)]

end Sys2Proof.Machine
end

section
/-! PROOFS. The placement checks of admission and the commit of a header (R46, R47, R49, R111, R112, R120 to R126). -/

namespace Sys2Proof.Machine

/-! ### Steps 11 to 14 -/

theorem placeCheck_window {h : Header} {n : Chan} {x : Instants} {s : State} {o : LaunchOutcome}
    (window : windowCheck x.t s.tb.time (s.chan n).settings.lead s.params = some o) : placeCheck h n x s = some o := by
  rw [placeCheck, window]

/-- Inside its windows a header is judged by its overlap set, the queue and the pool, in this order. -/
theorem placeCheck_inside {h : Header} {n : Chan} {x : Instants} {s : State}
    (window : windowCheck x.t s.tb.time (s.chan n).settings.lead s.params = none) : placeCheck h n x s =
      if displaceable h.priority.toNat (overlapSet x (s.chan n).queue) = false then some .overlap
      else if 16 < (s.chan n).queue.length - (overlapSet x (s.chan n).queue).length + 1 then some .queueFull
      else if s.pool.free.length + chainTotal (overlapSet x (s.chan n).queue) < blocksFor h.n.toNat then some .poolEmpty
      else none := by
  rw [placeCheck, window]
  rfl

theorem displaceable_eq_false (priority : Nat) (es : List Entry) :
    displaceable priority es = false ↔ ∃ e ∈ es, priority ≤ e.priority.val ∨ e.state = .active := by
  simp only [displaceable, List.all_eq_false, Bool.and_eq_true, decide_eq_true_eq, not_and_or, Nat.not_lt, not_not]

theorem placeCheck_readZone (h : Header) (n : Chan) (x : Instants) (i : Byte) (s : State) :
    placeCheck h n x (readZone i s).2 = placeCheck h n x s := by
  obtain ⟨tb, params, -, -, -, -, -, pool, -⟩ := readZone_keeps i s
  rw [placeCheck, placeCheck, readZone_chan, tb, params, pool]

theorem admitOn_placed {h : Header} {n : Chan} {s : State} (routed : routeCheck h n s = none) (src : Stream) (d : Int) :
    admitOn src h n d s = match placeCheck h n (launchInstants h.s h.o.toNat h.n.toNat (rateOf h.rate) d (s.chan n).settings) s with
      | some o => (.discarded o, s.writeRecord (discardRecord src h o (some n)
        (some (launchInstants h.s h.o.toNat h.n.toNat (rateOf h.rate) d (s.chan n).settings).t)))
      | none => (.admitted, commit src h n (launchInstants h.s h.o.toNat h.n.toNat (rateOf h.rate) d (s.chan n).settings) s) := by
  rw [admitOn, routed] <;> rfl

/-- Settles O38: the checks of `placeCheck` in their order, for any source, and for an INJECT HEADER after the read of its
zone entry. -/
theorem placementChecks : Obligations.PlacementChecks := by
  intro tag h n d s routed c x launch key late early victims blocked full empty injected read discard
  have discards {o : LaunchOutcome} (placed : placeCheck h n x s = some o) : discard o (BitVec.ofNat 8 o.code.val) := by
    refine ⟨fun src => ?_, fun ⟨accepts, free, passed, ⟨corrected, test⟩, l, index, carried⟩ => ?_⟩
    · rw [admitOn_placed routed, placed]
      rfl
    · refine exec_injectHeader accepts free (a := .discarded o) ?_ tag
      have routedRead : routeCheck h n read = none := (routeCheck_congr (readZone_chan h.zone s) h n).trans routed
      rw [admitHeader_routed passed test rfl index carried, admitOn_placed routedRead, readZone_chan, placeCheck_readZone, placed]
      rfl
  have judged (notLate : ¬late) (notEarly : ¬early) := placeCheck_inside (h := h) (n := n) (x := x) (s := s) (by
    rw [windowCheck]
    exact (if_neg notLate).trans (if_neg notEarly))
  have blocked_iff : displaceable h.priority.toNat (overlapSet x (s.chan n).queue) = false ↔ blocked :=
    displaceable_eq_false _ _
  refine ⟨fun isLate => discards (placeCheck_window (if_pos isLate)), fun notLate isEarly => discards (placeCheck_window ?_),
    fun notLate notEarly isBlocked => discards ?_, fun notLate notEarly clear isFull => discards ?_,
    fun notLate notEarly clear room isEmpty => discards ?_, fun notLate notEarly clear room enough src => ?_⟩
  · exact (if_neg notLate).trans (if_pos isEarly)
  · rw [judged notLate notEarly, if_pos (blocked_iff.mpr isBlocked)]
  · rw [judged notLate notEarly, if_neg (mt blocked_iff.mp clear)]
    exact if_pos isFull
  · rw [judged notLate notEarly, if_neg (mt blocked_iff.mp clear)]
    exact (if_neg room).trans (if_pos isEmpty)
  · have placed : placeCheck h n x s = none := by
      rw [judged notLate notEarly, if_neg (mt blocked_iff.mp clear)]
      exact (if_neg room).trans (if_neg enough)
    rw [admitOn_placed routed, placed]

end Sys2Proof.Machine
end

section
/-! PROOFS. The commit of a header that passes every check (R95, R105, R111, R112, R125, R171). -/

namespace Sys2Proof.Machine

/-- Stages 2 to 5 of the commit in one update. -/
theorem insertBatch_eq (src : Stream) (h : Header) (n : Chan) (x : Instants) (s : State) : insertBatch src h n x s = { s with
    channels := s.channels.set n { s.chan n with
      queue := insertEntry (newEntry src h x (s.pool.free.take (blocksFor h.n.toNat))) (s.chan n).queue }
    contexts := s.contexts.set src (some ⟨h.tag, n, segmentsFor h.n.toNat, 0, 0⟩)
    pool := ⟨s.pool.free.drop (blocksFor h.n.toNat), s.pool.cells⟩
    counts := { s.counts with admitted := countInc s.counts.admitted } } := rfl

theorem insertBatch_context (src : Stream) (h : Header) (n : Chan) (x : Instants) (s : State) (k : Stream) :
    (insertBatch src h n x s).context k =
      if k = src then some ⟨h.tag, n, segmentsFor h.n.toNat, 0, 0⟩ else s.context k :=
  State.context_setContext s src k _

theorem foldl_countOutcome_admitted (bs : List RecordBody) (c : Counts) :
    (bs.foldl (fun c b => c.countOutcome b.outcome) c).admitted = c.admitted := by
  induction bs generalizing c with
  | nil => rfl
  | cons b bs ih => exact ih _

/-- A header that passes every check is committed after the read of its zone entry. -/
theorem admitHeader_committed {h : Header} {s : State} {v : ZoneValue} {corrected : Bool} {l : Fin 16} {n : Chan}
    (passed : earlyCheck h s = none) (test : (s.zone h.zone).test = some (v, corrected)) (valid : v.valid = true)
    (index : l.val = h.logical.toNat) (carried : s.channelMap[l] = some n) (routed : routeCheck h n s = none)
    (placed : placeCheck h n (launchInstants h.s h.o.toNat h.n.toNat (rateOf h.rate) v.d (s.chan n).settings) s = none)
    (src : Stream) : admitHeader src h s = (.admitted, commit src h n
      (launchInstants h.s h.o.toNat h.n.toNat (rateOf h.rate) v.d (s.chan n).settings) (readZone h.zone s).2) := by
  have routedRead := (routeCheck_congr (readZone_chan h.zone s) h n).trans routed
  rw [admitHeader_routed passed test valid index carried, admitOn_placed routedRead, readZone_chan, placeCheck_readZone, placed]

/-- Settles O39: the commit's stages field by field. -/
theorem headerCommitted : Obligations.HeaderCommitted := by
  intro tag src h l n v corrected s free early test valid index carried routed c x victims stay pool need e ahead displaced u placed
  let read := (readZone h.zone s).2
  let r := retireAll n .preempted victims read
  have admitted := admitHeader_committed early test valid index carried routed placed src
  obtain ⟨tb, params, map, channels, framer, dir, contexts, readPool, ring, pins, pending, out⟩ := readZone_keeps h.zone s
  obtain ⟨-, -, -, -, -, readCounts, -⟩ := readZone_leaves h.zone s
  have same (m : Chan) : read.chan m = s.chan m := readZone_chan h.zone s m
  have commit_eq : commit src h n x read = redecide n (insertBatch src h n x r) := by
    rw [commit, same n]
    rfl
  have rPool : r.pool = ⟨pool, s.pool.cells⟩ := by
    rw [retireAll_pool, readPool]
  have rChan (m : Chan) : r.chan m = if m = n then { c with queue := stay } else s.chan m := by
    rw [retireAll_chan, same, same, show (s.chan n).queue.diff victims = stay from diff_filter_self _ _]
  obtain ⟨rRing, rCounts, rPort⟩ := retireAll_records n .preempted victims read
  have rAdmitted : r.counts.admitted = s.counts.admitted := by
    rw [rCounts, writeRecords_counts, foldl_countOutcome_admitted, readCounts]
  rw [commit_eq] at admitted
  refine ⟨insertBatch src h n x r, admitted, fun eight accepts => ?_, ?_, fun m other => ?_, ?_, ?_, fun k other => ?_, ?_, ?_,
    ?_, rRing, rPort, ?_, ?_, ?_, ?_, ?_, ?_, ?_, ?_, ?_⟩
  · subst eight
    exact exec_injectHeader accepts free admitted tag
  · rw [insertBatch_chan, if_pos rfl, rChan, if_pos rfl, rPool, insertEntry_eq]
    rfl
  · rw [insertBatch_chan, if_neg other, rChan, if_neg other]
  · rw [insertBatch_eq, rPool]
    rfl
  · rw [insertBatch_context, if_pos rfl]
    rfl
  · rw [insertBatch_context, if_neg other, retireAll_context, State.context_congr contexts]
  · rw [insertBatch_eq]
    show countInc r.counts.admitted = _
    rw [rAdmitted, countInc_eq]
  · exact congrArg (fun counts : Counts => { counts with admitted := countInc r.counts.admitted }) rCounts
  · show r.ring.records = _
    obtain ⟨records, -⟩ := writeRecords_records displaced read
    rw [tb, ring] at records
    exact (congrArg Ring.records rRing).trans records
  all_goals rw [insertBatch_eq]
  · exact retireAll_zones ..
  · exact (retireAll_tb ..).trans tb
  · exact (retireAll_params ..).trans params
  · exact (retireAll_channelMap ..).trans map
  · exact (retireAll_framer ..).trans framer
  · exact (retireAll_dir ..).trans dir
  · exact (retireAll_pins ..).trans pins
  · exact (retireAll_out ..).trans out
  · exact (retireAll_pending ..).trans pending

end Sys2Proof.Machine
end

section
/-! PROOFS. INJECT DATA: its refusals, and its segments one after another (R96 to R102, R172). -/

namespace Sys2Proof.Machine

/-! ### Refusals -/

/-- An INJECT DATA with its fixed fields in range and a body of the right length goes by the context's tag (R102, R172). -/
theorem reqInjectData_judged {batch : BitVec 16} {first count : Byte} {segments : List Byte} (low : 1 ≤ count.toNat)
    (high : count.toNat ≤ 8) (range : first.toNat + count.toNat ≤ 128) (length : segments.length = 16 * count.toNat) (s : State) :
    reqInjectData batch first count segments s = match s.context 8 with
      | none => (refusal .notFound, s)
      | some c => if c.tag ≠ batch then (refusal .notFound, s) else
        let ran := dataSegments 8 first.toNat (pieces 16 count.toNat segments) ⟨0, 0, 0, false, false⟩ s
        (dataReply ran.1 ran.2, ran.2) := by
  rw [reqInjectData, if_neg (by omega), if_neg (by omega), if_neg (by omega), if_neg (by omega)] <;> rfl

/-! ### Segments one after another -/

theorem dataSegments_cons (k : Stream) (i : Nat) (b : List Byte) (rest : List (List Byte)) (r : AssemblyReport) (s : State) :
    dataSegments k i (b :: rest) r s =
      dataSegments k (i + 1) rest (r.add (dataSegment k i b s).1) (dataSegment k i b s).2 := rfl

theorem dataSegments_append (k : Stream) (i : Nat) (as bs : List (List Byte)) (r : AssemblyReport) (s : State) :
    dataSegments k i (as ++ bs) r s =
      dataSegments k (i + as.length) bs (dataSegments k i as r s).1 (dataSegments k i as r s).2 := by
  induction as generalizing i r s with
  | nil => rfl
  | cons a as ih =>
    rw [List.cons_append, dataSegments_cons, ih, dataSegments_cons, List.length_cons, Nat.add_right_comm, Nat.add_assoc]

/-- A count of orphans after `k` more (R100, R158). -/
def orphansAfter (count k : Nat) : Nat := if count ≤ 65535 then min 65535 (count + k) else count

theorem orphansAfter_zero (count : Nat) : orphansAfter count 0 = count := by
  unfold orphansAfter
  split <;> omega

theorem orphansAfter_succ (count k : Nat) : orphansAfter (countInc count) k = orphansAfter count (k + 1) := by
  rw [countInc_eq, orphansAfter, orphansAfter]
  split_ifs <;> omega

/-- Segments on a FREE context are orphans, every one (R100). -/
theorem dataSegments_orphans {k : Stream} (i : Nat) (ps : List (List Byte)) (r : AssemblyReport) {s : State}
    (free : s.context k = none) : dataSegments k i ps r s = ({ r with orphans := r.orphans + ps.length },
      { s with counts := { s.counts with orphans := orphansAfter s.counts.orphans ps.length } }) := by
  induction ps generalizing i r s with
  | nil => rw [List.length_nil, orphansAfter_zero]; rfl
  | cons b ps ih =>
    rw [dataSegments_cons, dataSegment_orphan free]
    dsimp only
    rw [ih (i + 1) _ (s := { s with counts := { s.counts with orphans := countInc s.counts.orphans } }) free]
    simp only [AssemblyReport.add, orphansAfter_succ, List.length_cons, Nat.add_assoc, Nat.add_comm 1]

/-- Segments below the expected one are ignored (R98). -/
theorem dataSegments_duplicates {k : Stream} {s : State} {c : Context} (opened : s.context k = some c) {i : Nat}
    {ps : List (List Byte)} (below : i + ps.length ≤ c.next) (r : AssemblyReport) :
    dataSegments k i ps r s = ({ r with duplicates := r.duplicates + ps.length }, s) := by
  induction ps generalizing i r with
  | nil => rfl
  | cons b ps ih =>
    rw [List.length_cons] at below
    rw [dataSegments_cons, dataSegment_below opened (by omega), ih (by omega)]
    simp only [AssemblyReport.add, List.length_cons, Nat.add_assoc, Nat.add_comm 1]

/-- Settles O40: the refusals in their order; a gap ends the batch, and what follows it are orphans. -/
theorem injectDataRefused : Obligations.InjectDataRefused := by
  intro tag batch first count segments s accepts run refuse
  have answer {a : Reply} {t : State} (ran : reqInjectData batch first count segments s = (a, t)) :
      run = .next (t.enqueue ⟨0xA1, tag, a.body⟩) :=
    requestEvent_eq accepts tag (r := .injectData batch first count segments) ran
  refine ⟨fun high => answer (a := badField 2) (if_pos high), fun range bad => answer (a := badField 3) ?_,
    fun low high range => ⟨fun wrong => answer (a := refusal .badLength) ?_, fun length => ⟨fun free =>
      answer (a := refusal .notFound) ?_, fun c opened other => answer (a := refusal .notFound) ?_, fun c opened same gap => ?_⟩⟩⟩
  · rw [reqInjectData, if_neg (by omega)]
    by_cases counted : 1 ≤ count.toNat ∧ count.toNat ≤ 8
    · rw [if_neg (not_not.mpr counted), if_pos (by omega)]
    · rw [if_pos counted]
  · rw [reqInjectData, if_neg (by omega), if_neg (by omega), if_neg (by omega), if_pos wrong]
  · rw [reqInjectData_judged low high range length, free]
  · rw [reqInjectData_judged low high range length, opened]
    exact if_pos other
  · intro t
    obtain ⟨b, ps, parts⟩ : ∃ b ps, pieces 16 count.toNat segments = b :: ps := by
      refine List.exists_cons_of_length_pos ?_
      rw [pieces_length]
      exact low
    have number : ps.length = count.toNat - 1 := by
      have total := congrArg List.length parts
      rw [pieces_length, List.length_cons] at total
      omega
    have ran : dataSegments 8 first.toNat (pieces 16 count.toNat segments) ⟨0, 0, 0, false, false⟩ s =
        (⟨0, 0, count.toNat - 1, false, true⟩,
          { t with counts := { t.counts with orphans := orphansAfter t.counts.orphans (count.toNat - 1) } }) := by
      rw [parts, dataSegments_cons, dataSegment_above opened gap]
      dsimp only
      rw [dataSegments_orphans _ _ _ (endAssembly_context ..), number]
      simp [AssemblyReport.add, t]
    refine answer (a := ⟨.discarded, [0x14, 0, 0, BitVec.ofNat 8 (count.toNat - 1)]⟩) ?_
    rw [reqInjectData_judged low high range length, opened]
    dsimp only
    rw [if_neg (not_not.mpr same), ran]
    rfl

end Sys2Proof.Machine
end

section
/-! PROOFS. INJECT DATA that writes: the state after any number of segments of a batch, and the symbols they leave in the pool
(R96 to R98, R102, R172). -/

namespace Sys2Proof.Machine

/-! ### The symbols' places -/

theorem symbolAddress_add (chain : List Nat) (i : Nat) {j : Nat} (inside : j < 64) :
    symbolAddress chain (64 * i + j) = symbolAddress chain (64 * i) + j := by
  have block : (64 * i + j) / 256 = 64 * i / 256 := by omega
  have place : (64 * i + j) % 256 = 64 * i % 256 + j := by omega
  rw [symbolAddress, symbolAddress, block, place, Nat.add_assoc]

/-- No two symbols of a batch share a place (R96, R104). -/
theorem symbolAddress_inj {chain : List Nat} (distinct : chain.Nodup) {p q : Nat} (hp : p / 256 < chain.length)
    (hq : q / 256 < chain.length) (same : symbolAddress chain p = symbolAddress chain q) : p = q := by
  rw [symbolAddress, symbolAddress, List.getD_eq_getElem _ _ hp, List.getD_eq_getElem _ _ hq] at same
  have block : chain[p / 256] = chain[q / 256] := by omega
  have index := (List.Nodup.getElem_inj_iff distinct).mp block
  omega

/-! ### The state after some segments -/

/-- A batch's entry and its context once the segments below `stop` are received (R96, R97). -/
def Context.entryAt (c : Context) (e : Entry) (stop : Nat) : Entry :=
  { e with received := min e.n (64 * stop), state := if stop = c.expected then .ready else .assembling }

def Context.progress (c : Context) (e : Entry) (stop : Nat) : Option Context :=
  if stop = c.expected then none else some { c with next := stop, received := min e.n (64 * stop) }

/-- The state once the segments from the expected one up to `stop` are written, given the pool's cells. -/
def segmentsWritten (s : State) (k : Stream) (c : Context) (e : Entry) (stop : Nat) (cells : List (Nat × Sym)) : State := { s with
  channels := s.channels.set c.chan { s.chan c.chan with
    queue := (s.chan c.chan).queue.map (fun y => if y = e then c.entryAt e stop else y) }
  contexts := s.contexts.set k (c.progress e stop)
  pool := ⟨s.pool.free, cells⟩ }

/-- The cells once the symbols of segments `c.next` to `stop - 1` are written where R96 puts them. -/
structure CellsAfter (before : List (Nat × Sym)) (c : Context) (e : Entry) (symbol : Nat → Sym) (stop : Nat)
    (cells : List (Nat × Sym)) : Prop where
  canonical : cellsWfFrom 0 cells = true
  written : ∀ p, 64 * c.next ≤ p → p < min e.n (64 * stop) → cellsRead (symbolAddress e.chain p) cells = symbol p
  kept : ∀ a, (∀ p, 64 * c.next ≤ p → p < min e.n (64 * stop) → a ≠ symbolAddress e.chain p) →
    cellsRead a cells = cellsRead a before

/-- What an OPEN context says of its batch before any of the segments. -/
structure Assembling (s : State) (k : Stream) (c : Context) (e : Entry) : Prop where
  opened : s.context k = some c
  entry : contextEntry c s = some e
  received : e.received = 64 * c.next
  count : c.received = 64 * c.next
  expected : c.expected = segmentsFor e.n
  below : c.next < c.expected
  /-- No other entry of the queue bears the tag (R119). -/
  only : ∀ y ∈ (s.chan c.chan).queue, y.tag = e.tag → y = e

theorem Assembling.of {s : State} {k : Stream} {c : Context} {e : Entry} (contexts : ContextsMatch s) (unique : TagsUnique s)
    (opened : s.context k = some c) (entry : contextEntry c s = some e) : Assembling s k c e := by
  obtain ⟨tag, -⟩ := contextEntry_state entry
  obtain ⟨-, -, -, received, expected, below, count⟩ := context_entry ⟨contexts, unique⟩ opened (contextEntry_mem entry) tag
  exact ⟨opened, entry, received.trans count, count, expected, below, fun y hy same =>
    (entry_of_tag unique hy (contextEntry_mem entry) same).2⟩

theorem segmentsWritten_chan (s : State) (k : Stream) (c : Context) (e : Entry) (stop : Nat) (cells : List (Nat × Sym)) (m : Chan) :
    (segmentsWritten s k c e stop cells).chan m = if m = c.chan then { s.chan c.chan with
      queue := (s.chan c.chan).queue.map (fun y => if y = e then c.entryAt e stop else y) } else s.chan m :=
  State.chan_setChan s c.chan m _

theorem segmentsWritten_context (s : State) (k : Stream) (c : Context) (e : Entry) (stop : Nat) (cells : List (Nat × Sym))
    (j : Stream) : (segmentsWritten s k c e stop cells).context j = if j = k then c.progress e stop else s.context j :=
  State.context_setContext s k j _

section
variable {s : State} {k : Stream} {c : Context} {e : Entry} (batch : Assembling s k c e)
include batch

/-- Below the expected end every segment's symbols lie within the batch. -/
theorem Assembling.symbols {stop : Nat} (below : stop < c.expected) : 64 * stop < e.n := by
  rw [batch.expected] at below
  unfold segmentsFor at below
  omega

/-- Before any segment, nothing is changed. -/
theorem Assembling.start : segmentsWritten s k c e c.next s.pool.cells = s := by
  have symbols : min e.n (64 * c.next) = 64 * c.next := Nat.min_eq_right (batch.symbols batch.below).le
  obtain ⟨-, assembling⟩ := contextEntry_state batch.entry
  have entry : c.entryAt e c.next = e := by
    rw [Context.entryAt, if_neg batch.below.ne, symbols, ← batch.received, ← assembling]
  have context : c.progress e c.next = s.context k := by
    rw [Context.progress, if_neg batch.below.ne, symbols, ← batch.count, batch.opened]
  have queue : (s.chan c.chan).queue.map (fun y => if y = e then c.entryAt e c.next else y) = (s.chan c.chan).queue := by
    rw [entry]
    refine (List.map_congr_left fun y _ => ?_).trans (List.map_id _)
    split
    next same => exact same.symm
    next => rfl
  have channels : s.channels.set c.chan { s.chan c.chan with queue := (s.chan c.chan).queue } = s.channels :=
    Vector.set_getElem_self ..
  have contexts : s.contexts.set k (s.context k) = s.contexts := Vector.set_getElem_self ..
  rw [segmentsWritten, context, queue, channels, contexts]

/-- The entry and the context that the next segment finds. -/
theorem Assembling.finds {stop : Nat} (below : stop < c.expected) (cells : List (Nat × Sym)) :
    contextEntry { c with next := stop, received := min e.n (64 * stop) } (segmentsWritten s k c e stop cells) =
      some (c.entryAt e stop) := by
  obtain ⟨tag, assembling⟩ := contextEntry_state batch.entry
  have searched := batch.entry
  rw [contextEntry] at searched ⊢
  rw [segmentsWritten_chan, if_pos rfl, List.find?_map]
  have matching : ((fun y : Entry => decide (y.tag = c.tag ∧ y.state = .assembling)) ∘
      fun y => if y = e then c.entryAt e stop else y) = fun y => decide (y.tag = c.tag ∧ y.state = .assembling) := by
    funext y
    by_cases same : y = e
    · simp [same, Context.entryAt, below.ne, tag, assembling]
    · simp [same]
  rw [matching, searched, Option.map_some, if_pos rfl]

theorem Assembling.received_succ {stop : Nat} (below : stop < c.expected) :
    min e.n (64 * stop) + segmentCount e.n c.expected stop = min e.n (64 * (stop + 1)) := by
  rw [batch.expected] at below ⊢
  unfold segmentCount
  unfold segmentsFor at *
  split <;> omega

/-- A segment's writing moves the entry and the context on by one (R97). -/
theorem Assembling.entryAt_succ {stop : Nat} (below : stop < c.expected) :
    segmentWritten { c with next := stop, received := min e.n (64 * stop) } (c.entryAt e stop) = c.entryAt e (stop + 1) := by
  have received := batch.received_succ below
  rw [segmentWritten, Context.entryAt, if_neg below.ne, Context.entryAt]
  simp only [received]

theorem Assembling.writes {stop : Nat} (below : stop < c.expected) (bytes : List Byte) (cells : List (Nat × Sym)) :
    dataSegment k stop bytes (segmentsWritten s k c e stop cells) =
      (if stop + 1 = c.expected then .completed else .written, segmentsWritten s k c e (stop + 1)
        (segmentCells { c with next := stop, received := min e.n (64 * stop) } (c.entryAt e stop) bytes cells)) := by
  have opened : (segmentsWritten s k c e stop cells).context k =
      some { c with next := stop, received := min e.n (64 * stop) } := by
    rw [segmentsWritten_context, if_pos rfl, Context.progress, if_neg below.ne]
  have moved := batch.entryAt_succ below
  rw [dataSegment_expected opened (batch.finds below cells), writeSegment_eq, segmentsWritten_chan, if_pos rfl, moved]
  have queue : ((s.chan c.chan).queue.map (fun y => if y = e then c.entryAt e stop else y)).map
      (fun y => if y = c.entryAt e stop then c.entryAt e (stop + 1) else y) =
      (s.chan c.chan).queue.map (fun y => if y = e then c.entryAt e (stop + 1) else y) := by
    rw [List.map_map]
    refine List.map_congr_left fun y hy => ?_
    by_cases same : y = e
    · simp [same]
    · have other : y ≠ c.entryAt e stop := fun h => same (batch.only y hy (by rw [h]; rfl))
      simp [same, other]
  dsimp only
  rw [queue]
  have received := batch.received_succ below
  simp only [segmentsWritten, Vector.set_set, Context.progress, show (c.entryAt e stop).n = e.n from rfl, received]

/-- The symbols that a segment leaves (R96). -/
theorem Assembling.cells {stop : Nat} (next : c.next ≤ stop) (below : stop < c.expected) (distinct : e.chain.Nodup)
    (blocks : e.chain.length = (e.n + 255) / 256) {bytes : List Byte} (length : bytes.length = 16) {symbol : Nat → Sym}
    (sends : ∀ j < 64, (bytes.getD (j / 4) 0).extractLsb' (6 - 2 * (j % 4)) 2 = symbol (64 * stop + j))
    {before cells : List (Nat × Sym)} (after : CellsAfter before c e symbol stop cells) :
    CellsAfter before c e symbol (stop + 1)
      (segmentCells { c with next := stop, received := min e.n (64 * stop) } (c.entryAt e stop) bytes cells) := by
  have start := batch.symbols below
  have received := batch.received_succ below
  have inside {j : Nat} := segmentCells_inside (c := { c with next := stop, received := min e.n (64 * stop) })
    (e := c.entryAt e stop) after.canonical batch.expected below length (j := j)
  have outside {a : Nat} := segmentCells_outside (c := { c with next := stop, received := min e.n (64 * stop) })
    (e := c.entryAt e stop) (cells := cells) batch.expected below length (a := a)
  have range : segmentCount e.n c.expected stop ≤ 64 := (batch.expected ▸ segmentCount_range (batch.expected ▸ below)).2
  have crossing {a : Nat} (crossed : ¬(a < symbolAddress e.chain (64 * stop) ∨
      symbolAddress e.chain (64 * stop) + segmentCount e.n c.expected stop ≤ a)) :
      ∃ j < segmentCount e.n c.expected stop, a = symbolAddress e.chain (64 * stop + j) :=
    ⟨a - symbolAddress e.chain (64 * stop), by omega, by rw [symbolAddress_add _ _ (by omega)]; omega⟩
  refine ⟨cellsWfFrom_cellsWriteAll _ _ _ after.canonical, fun p low high => ?_, fun a apart => ?_⟩
  · by_cases earlier : p < 64 * stop
    · rw [outside, after.written p low (by omega)]
      by_contra crossed
      obtain ⟨j, short, same⟩ := crossing crossed
      have := symbolAddress_inj distinct (by omega) (by omega) same
      omega
    · obtain ⟨j, rfl⟩ : ∃ j, p = 64 * stop + j := ⟨p - 64 * stop, by omega⟩
      have short : j < segmentCount e.n c.expected stop := by omega
      rw [symbolAddress_add _ _ (by omega), ← sends j (by omega)]
      exact inside short
  · have clear : a < symbolAddress e.chain (64 * stop) ∨
        symbolAddress e.chain (64 * stop) + segmentCount e.n c.expected stop ≤ a := by
      by_contra crossed
      obtain ⟨j, short, same⟩ := crossing crossed
      exact apart (64 * stop + j) (by omega) (by omega) same
    rw [outside clear, after.kept a fun p low high => apart p low (by omega)]

/-- The next segments of a batch, one after another. -/
theorem Assembling.writesAll (distinct : e.chain.Nodup) (blocks : e.chain.length = (e.n + 255) / 256) {symbol : Nat → Sym}
    {before : List (Nat × Sym)} (ps : List (List Byte)) {i stop : Nat} (here : ps ≠ [] → i = stop) (next : c.next ≤ stop)
    (fits : stop + ps.length ≤ c.expected) (sends : ∀ m b, ps[m]? = some b → b.length = 16 ∧
      ∀ j < 64, (b.getD (j / 4) 0).extractLsb' (6 - 2 * (j % 4)) 2 = symbol (64 * (stop + m) + j))
    {cells : List (Nat × Sym)} (after : CellsAfter before c e symbol stop cells) (written duplicates orphans : Nat) (gap : Bool) :
    ∃ cells', dataSegments k i ps ⟨written, duplicates, orphans, decide (stop = c.expected), gap⟩
        (segmentsWritten s k c e stop cells) =
      (⟨written + ps.length, duplicates, orphans, decide (stop + ps.length = c.expected), gap⟩,
        segmentsWritten s k c e (stop + ps.length) cells') ∧ CellsAfter before c e symbol (stop + ps.length) cells' := by
  induction ps generalizing i stop cells written with
  | nil => exact ⟨cells, rfl, after⟩
  | cons b ps ih =>
    obtain rfl := here (by simp)
    rw [List.length_cons] at fits
    have below : i < c.expected := by omega
    obtain ⟨length, symbols⟩ := sends 0 b rfl
    have moved := batch.cells next below distinct blocks length symbols after
    have report : (AssemblyReport.mk written duplicates orphans (decide (i = c.expected)) gap).add
        (if i + 1 = c.expected then .completed else .written) =
        ⟨written + 1, duplicates, orphans, decide (i + 1 = c.expected), gap⟩ := by
      by_cases last : i + 1 = c.expected
      · simp [AssemblyReport.add, last]
      · simp [AssemblyReport.add, last, below.ne]
    rw [dataSegments_cons, batch.writes below, report, List.length_cons, Nat.add_comm ps.length 1, ← Nat.add_assoc, ← Nat.add_assoc]
    refine ih (fun _ => rfl) (by omega) (by omega) (fun m b' hb => ?_) moved (written + 1)
    have later := sends (m + 1) b' hb
    rwa [show i + (m + 1) = i + 1 + m by omega] at later

end

/-! ### The request -/

/-- What follows the last segment of a batch are orphans, where anything follows. -/
theorem dataSegments_rest {k : Stream} (i : Nat) {ps : List (List Byte)} (r : AssemblyReport) {s : State}
    (free : ps ≠ [] → s.context k = none) : dataSegments k i ps r s = ({ r with orphans := r.orphans + ps.length },
      { s with counts := { s.counts with orphans := orphansAfter s.counts.orphans ps.length } }) := by
  by_cases empty : ps = []
  · subst empty
    rw [List.length_nil, orphansAfter_zero]
    rfl
  · exact dataSegments_orphans i ps r (free empty)

/-- A segment's bytes hold its symbols, four a byte (R96). -/
theorem pieces_symbols {count : Nat} {segments : List Byte} (length : segments.length = 16 * count) (first : Nat) {m : Nat}
    {b : List Byte} (here : (pieces 16 count segments)[m]? = some b) : b.length = 16 ∧ ∀ j < 64,
      (b.getD (j / 4) 0).extractLsb' (6 - 2 * (j % 4)) 2 =
        (segments.getD ((64 * (first + m) + j) / 4 - 16 * first) 0).extractLsb' (6 - 2 * ((64 * (first + m) + j) % 4)) 2 := by
  have inside : m < count := by
    rw [← pieces_length 16 count segments]
    exact (List.getElem?_eq_some_iff.mp here).1
  rw [pieces_getElem? inside] at here
  obtain rfl := Option.some.inj here
  refine ⟨by rw [List.length_take, List.length_drop]; omega, fun j hj => ?_⟩
  have byte : 16 * m + j / 4 = (64 * (first + m) + j) / 4 - 16 * first := by omega
  have place : j % 4 = (64 * (first + m) + j) % 4 := by omega
  rw [piece_getD (by omega), byte, place]

/-- The reply to segments that left no gap (R172). -/
theorem dataReply_written {t : State} {c : Context} {e : Entry} {stop : Nat} (context : t.context 8 = c.progress e stop)
    (written ignored orphans : Nat) : dataReply ⟨written, ignored, orphans, decide (stop = c.expected), false⟩ t =
      okWith [if stop = c.expected then 1 else 0, BitVec.ofNat 8 written, BitVec.ofNat 8 ignored, BitVec.ofNat 8 orphans,
        if stop = c.expected then 0 else BitVec.ofNat 8 stop] := by
  by_cases finished : stop = c.expected
  · rw [decide_eq_true finished, if_pos finished, if_pos finished]
    rfl
  · rw [decide_eq_false finished, if_neg finished, if_neg finished, dataReply, context, Context.progress, if_neg finished]
    rfl

/-- Settles O41: segments already received, segments written, and orphans, in this order. -/
theorem injectDataWrites : Obligations.InjectDataWrites := by
  intro tag first count segments c e s accepts range low high length contexts unique canonical opened entry distinct blocks
    symbolsBound orphansBound notBeyond past stop ready have' e' symbol written ignored orphans
  have batch := Assembling.of contexts unique opened entry
  have below := batch.below
  let ps := pieces 16 count.toNat segments
  have total : ps.length = count.toNat := pieces_length ..
  have parts : ps = ps.take ignored ++ ((ps.drop ignored).take written ++ (ps.drop ignored).drop written) := by
    rw [List.take_append_drop, List.take_append_drop]
  have ignoredLength : (ps.take ignored).length = ignored := by
    rw [List.length_take]
    omega
  have writtenLength : ((ps.drop ignored).take written).length = written := by
    rw [List.length_take, List.length_drop]
    omega
  have restLength : ((ps.drop ignored).drop written).length = orphans := by
    rw [List.length_drop, List.length_drop]
    omega
  have unchanged : CellsAfter s.pool.cells c e symbol c.next s.pool.cells :=
    ⟨canonical, fun p low high => absurd high (by omega), fun _ _ => rfl⟩
  have passed : dataSegments 8 first.toNat (ps.take ignored) ⟨0, 0, 0, false, false⟩ s =
      (⟨0, ignored, 0, decide (c.next = c.expected), false⟩, s) := by
    rw [dataSegments_duplicates opened (by omega), ignoredLength, Nat.zero_add, decide_eq_false below.ne]
  have sends (m : Nat) (b : List Byte) (hb : ((ps.drop ignored).take written)[m]? = some b) : b.length = 16 ∧
      ∀ j < 64, (b.getD (j / 4) 0).extractLsb' (6 - 2 * (j % 4)) 2 = symbol (64 * (c.next + m) + j) := by
    have inside : m < written := by
      rw [← writtenLength]
      exact (List.getElem?_eq_some_iff.mp hb).1
    rw [List.getElem?_take_of_lt inside, List.getElem?_drop] at hb
    obtain ⟨size, symbols⟩ := pieces_symbols length first.toNat hb
    refine ⟨size, fun j hj => ?_⟩
    rw [symbols j hj, show first.toNat + (ignored + m) = c.next + m by omega]
  obtain ⟨cells, wrote, after⟩ := batch.writesAll distinct blocks ((ps.drop ignored).take written)
    (i := first.toNat + ignored) (stop := c.next)
    (fun some => by have := List.length_pos_iff.mpr some; omega) le_rfl (by omega) sends unchanged 0 ignored 0 false
  have ended : c.next + ((ps.drop ignored).take written).length = stop := by omega
  rw [batch.start, ended, writtenLength, Nat.zero_add] at wrote
  rw [ended] at after
  let t : State := { segmentsWritten s 8 c e stop cells with counts := { s.counts with
    orphans := orphansAfter s.counts.orphans orphans } }
  have ran : dataSegments 8 first.toNat ps ⟨0, 0, 0, false, false⟩ s =
      (⟨written, ignored, orphans, decide (stop = c.expected), false⟩, t) := by
    have free : (ps.drop ignored).drop written ≠ [] → (segmentsWritten s 8 c e stop cells).context 8 = none := fun some => by
      have := List.length_pos_iff.mpr some
      rw [segmentsWritten_context, if_pos rfl, Context.progress, if_pos (by omega)]
    rw [parts, dataSegments_append, passed, dataSegments_append, ignoredLength, wrote, dataSegments_rest _ _ free, restLength]
    simp [t, segmentsWritten]
  have context (k : Stream) : t.context k = if k = 8 then c.progress e stop else s.context k :=
    segmentsWritten_context s 8 c e stop cells k
  have chan (m : Chan) : t.chan m = _ := segmentsWritten_chan s 8 c e stop cells m
  have replied := dataReply_written ((context 8).trans (if_pos rfl)) written ignored orphans
  refine ⟨t, ?_, ?_, fun m other => ?_, ?_, fun k other => ?_, rfl, after.written, after.kept, ?_, rfl, rfl, rfl, rfl, rfl, rfl, rfl,
    rfl, rfl⟩
  · refine requestEvent_eq accepts tag (r := .injectData c.tag first count segments) (a := okWith _) ?_
    show reqInjectData c.tag first count segments s = _
    rw [reqInjectData_judged low high range length, opened]
    dsimp only
    rw [if_neg (not_not.mpr rfl), ran, replied]
  · rw [chan, if_pos rfl]
    rfl
  · rw [chan, if_neg other]
  · rw [context, if_pos rfl]
    rfl
  · rw [context, if_neg other]
  · show { s.counts with orphans := orphansAfter s.counts.orphans orphans } = _
    rw [orphansAfter, if_pos orphansBound]

end Sys2Proof.Machine
end
